-- ==== Sys2Proof/Word.lean ====
section
/-! DEFINITION. The one word of the hardware: the byte (`00_scope.md` R7, R9). Counters are naturals (R7). -/

namespace Sys2Proof

/-- A byte: every byte on every port is 8 bits, bit 7 the most significant (R7, R9). -/
abbrev Byte := BitVec 8

end Sys2Proof
end

