-- ==== Sys2Proof/Config.lean ====
section
/-! DEFINITION. The constants the spec fixes (R5), the configuration record `Cfg` (R6), the two kinds of answer
the transport gives (R56, R58), and the free values behind them. -/

namespace Sys2Proof

/-- Payload bytes per block (R5). -/
def BLOCK : Nat := 128
/-- First byte of every data frame (R5). -/
def SOH : Byte := 0x01#8
/-- The end-of-transmission byte (R5, R82). -/
def EOT : Byte := 0x04#8
/-- The receiver's positive response (R5, R85). -/
def ACK : Byte := 0x06#8
/-- The receiver's negative response (R5, R85). -/
def NAK : Byte := 0x15#8
/-- Filler of the final short block (R5; conflict C1 settles 0x1A against zero). -/
def PAD : Byte := 0x1A#8
/-- Sequence number of the first block (R5). -/
def SEQ_INIT : Byte := 1#8
/-- Bytes in a data frame (R5). -/
def FRAME_LEN : Nat := 132

/-- The configuration record (R6): parameters, fixed before reset is released and written by no rule (R32).
Durations are naturals of milliseconds; no rule depends on their value (R6; log 9). -/
structure Cfg where
  /-- `MAX_RETRY`: a block fails when its error count exceeds this (R6, R134). -/
  maxRetry : Nat
  /-- `EOT_MAX_RETRY`: the bound on failed `EOT` attempts (R6, R158). -/
  eotMaxRetry : Nat
  /-- `T_ACK`: deadline of a data wait window (R6, R207). -/
  tAck : Nat
  /-- `T_EOT`: deadline of an `EOT` wait window (R6, R207). -/
  tEot : Nat
deriving DecidableEq, Repr

/-- The defaults of R6: `MAX_RETRY` 10, `EOT_MAX_RETRY` = `MAX_RETRY`, `T_ACK` 10 s, `T_EOT` = `T_ACK`. -/
def Cfg.default : Cfg :=
  { maxRetry := 10, eotMaxRetry := 10, tAck := 10000, tEot := 10000 }

/-- The answer of one `RxRead` (R58): the oldest unread byte, or the window's deadline. -/
inductive RxAnswer where
  | byte (b : Byte)
  | timeout
deriving DecidableEq, Repr, Inhabited

/-- The answer of one `TxWrite` (R56). On `fail`, `reached` is how long a prefix of the bytes reached TX (U4: any
prefix, possibly empty, possibly all) and `drained` how many of the oldest bytes of the output buffer have left it
by then (the spec does not say; log 8). -/
inductive TxAnswer where
  | ok
  | fail (reached drained : Nat)
deriving DecidableEq, Repr, Inhabited

/-- FREE VALUE (log 2): what `RxRead` answers when the state lists no further answer, one value a draw.
"The answer is the oracle's choice" (R58; U15). -/
opaque Config.rxOracle : Nat → RxAnswer

/-- FREE VALUE (log 2): what `TxWrite` answers when the state lists no further answer, one value a draw.
"Whether `TxWrite` answers `ok` or `fail` is the oracle's choice" (R56). -/
opaque Config.txOracle : Nat → TxAnswer

end Sys2Proof
end

