-- ==== Sys2Proof/Machine/Functions.lean ====
section
/-! DEFINITION. The pure functions of the frame encoder (`40_frame_encoder.md`) and of block verification
(`43_verify.md`), and the class of a response byte. None reads or writes any register, memory or port (R110). -/

namespace Sys2Proof.Machine

/-- A byte of class `NOISE`: neither `ACK` nor `NAK` (R85). -/
def isNoise (b : Byte) : Bool := b != ACK && b != NAK

/-- `SEQNEXT(seq) = (seq + 1) mod 256` (R111; conflict C2: 255 is followed by 0). -/
def seqNext (seq : Byte) : Byte := BitVec.ofNat 8 ((seq.toNat + 1) % 256)

/-- `CSEQ(seq) = 255 - seq` (R112). -/
def cseqOf (seq : Byte) : Byte := BitVec.ofNat 8 (255 - seq.toNat)

/-- The sum of the bytes taken as unsigned integers (R114). -/
def byteSum (bs : List Byte) : Nat := (bs.map BitVec.toNat).sum

/-- `PADBLK(chunk) = chunk ++ rep(0x1A, 128 - n)` (R113). -/
def padBlk (chunk : List Byte) : List Byte := chunk ++ List.replicate (BLOCK - chunk.length) PAD

/-- `CHK(payload)`: the sum of the payload bytes mod 256, the header not covered (R114). -/
def chkOf (payload : List Byte) : Byte := BitVec.ofNat 8 (byteSum payload % 256)

/-- `CHUNKLEN(L, off) = min(128, L - off)`, for `off <= L` (R115). -/
def chunkLen (L off : Nat) : Nat := min BLOCK (L - off)

/-- `NBLOCKS(L) = ceil(L / 128)` (R115). -/
def nBlocks (L : Nat) : Nat := (L + (BLOCK - 1)) / BLOCK

/-- The layout of format F132: `soh`, `seq`, `cseq`, 128 data bytes, `chk`, first byte first (R81). -/
def dataFrame (seq cseq : Byte) (payload : List Byte) (chk : Byte) : List Byte :=
  [SOH, seq, cseq] ++ payload ++ [chk]

/-- `ENCODE(seq, chunk)` (R116). -/
def encodeFrame (seq : Byte) (chunk : List Byte) : List Byte :=
  dataFrame seq (cseqOf seq) (padBlk chunk) (chkOf (padBlk chunk))

/-- Byte `i` of a sequence (`F[i]` of R9), 0 where there is none; used behind a length test only. -/
def byteAt (F : List Byte) (i : Nat) : Byte := F.getD i 0#8

/-- `F[3..130]`, the payload of a frame (R182). -/
def payloadOf (F : List Byte) : List Byte := (F.drop 3).take BLOCK

/-- `VERIFY(F)` (R181). -/
def verifyFrame (F : List Byte) : Bool :=
  F.length == FRAME_LEN
    && byteAt F 0 == SOH
    && (byteAt F 1).toNat + (byteAt F 2).toNat == 255
    && byteAt F 131 == chkOf (payloadOf F)

/-- `DECODE(F) = (F[1], F[3..130])`, for `F` with `VERIFY(F)` (R182). -/
def decodeFrame (F : List Byte) : Byte × List Byte := (byteAt F 1, payloadOf F)

/-- `VERIFYSEQ(F, exp) = VERIFY(F) and F[1] = exp` (R182). -/
def verifySeq (F : List Byte) (exp : Byte) : Bool := verifyFrame F && byteAt F 1 == exp

end Sys2Proof.Machine
end

