-- ==== Sys2Proof/Syntax.lean ====
section
/-! DEFINITION. The instructions: one constructor for each of the 34 rows of `spec/opcode_table.json`, and the
eight states of the state register `ST`. -/

namespace Sys2Proof

/-- The eight values of the state register `ST` (R21), in the order of their encodings 0 to 7. -/
inductive St where
  | awaitStart
  | sendBlock
  | awaitAck
  | retry
  | done
  | failed
  | sendEot
  | awaitEotAck
deriving DecidableEq, Repr

/-- The instructions. An operand is what the row's encoding carries (the byte of a noise response, the fields of a
data frame) or what the row's function takes; bits a row's mask leaves out ("any" in R91, R92) are no operand.
START's length `L` is an input of the command port, not a bit of its word (R92). -/
inductive Instr where
  -- CMD: the command word (R92)
  | reset
  | start
  | startRefused
  | nocmd
  -- DISPATCH: the step the dispatch word selects (R91)
  | awaitStart
  | sendBlock
  | awaitAckAck
  | awaitAckNak
  | awaitAckTimeout
  | awaitAckNoise (rxb : Byte)
  | retryFail
  | retryResend
  | done
  | failed
  | sendEot
  | awaitEotAckAck
  | awaitEotAckNak
  | awaitEotAckTimeout
  | awaitEotAckNoise (rxb : Byte)
  -- F132 and F1: the items the block emits on TX (R81, R82)
  | data (seq cseq : Byte) (payload : List Byte) (chk : Byte)
  | eot
  -- RSP: the response byte read on RX (R85)
  | ack
  | nak
  | noise (b : Byte)
  -- FUNC: the pure functions of the encoder and the verifier (R110 to R116, R181, R182)
  | seqnext (seq : Byte)
  | cseq (seq : Byte)
  | padblk (chunk : List Byte)
  | chk (payload : List Byte)
  | chunklen (L off : Nat)
  | nblocks (L : Nat)
  | encode (seq : Byte) (chunk : List Byte)
  | verify (F : List Byte)
  | decode (F : List Byte)
  | verifyseq (F : List Byte) (exp : Byte)
deriving DecidableEq, Repr

end Sys2Proof
end

