-- ==== Sys2Proof/Machine/State.lean ====
section
/-! DEFINITION. The state: the registers and the frame buffer of R20, the hidden state of R33, the inputs the step
relation takes as parameters (R20: `Cfg`, the image, the host's commands, the transport's answers), held as plain
data, and the record of what left the block. -/

namespace Sys2Proof.Machine

/-- A space of bytes by address: the cells that hold a value, addresses strictly rising. An address with no cell
holds no value (`FB` after reset, R34; an offset outside the image, R53). -/
abbrev Memory := List Host.Cell

/-- The canonical form of a memory. No cell can equal what an unlisted address reads as, which is no value. -/
abbrev Memory.wf (m : Memory) : Prop := m.Pairwise fun p q => p.1 < q.1

/-- One sample of the command port (R92): the word `C = rst ++ start` and the length input `L`. -/
structure Command where
  word : BitVec 2
  len : Nat
deriving DecidableEq, Repr

/-- The six error events (R190). They are names for rules and proofs; the block stores none of them. -/
inductive ErrorEvent where
  | nak
  | timeout
  | noise
  | retryExhausted
  | eotExhausted
  | txFault
deriving DecidableEq, Repr

/-- One entry of the record of a run, in the order things happened (trace notation R11; port operations R64; error
events R190). -/
inductive PortOp where
  /-- The host's RESET was taken. -/
  | reset
  /-- The host's START was accepted with this length. -/
  | start (L : Nat)
  /-- `MemRead(a, n)` (R52). -/
  | memRead (a n : Nat)
  /-- `MemWrite(a, n, v)` on the frame buffer (R54). -/
  | memWrite (a : Nat) (v : List Byte)
  /-- `TxWrite(X)` answered `ok`: all of `X` is on TX (R56). -/
  | txOk (X : List Byte)
  /-- `TxWrite(X)` answered `fail`: the first `reached` bytes of `X` are on TX (R56, U4). -/
  | txFail (X : List Byte) (reached : Nat)
  /-- `TxFlush()` (R57). -/
  | txFlush
  /-- `RxRead()` and its answer (R58). -/
  | rxRead (a : RxAnswer)
  /-- `Progress(t, s, e)` (R166). -/
  | progress (t s e : Nat)
  /-- `raise E` (R190). -/
  | raised (e : ErrorEvent)
deriving DecidableEq, Repr

/-- The result of a pure function (R110, R181, R182). -/
inductive FuncResult where
  | byte (b : Byte)
  | bytes (bs : List Byte)
  | nat (n : Nat)
  | bool (b : Bool)
  | seqPayload (seq : Byte) (payload : List Byte)
deriving DecidableEq, Repr

/-- The state of the machine. -/
structure State where
  /-- `ST`, the state register; the block's program counter (R21). -/
  st : St
  /-- `SEQ` (R22). -/
  seq : Byte
  /-- `ERR` (R23). -/
  err : Nat
  /-- `EERR` (R24). -/
  eerr : Nat
  /-- `SUCC` (R25). -/
  succ : Nat
  /-- `ERRTOT` (R26). -/
  errtot : Nat
  /-- `TOTAL` (R27). -/
  total : Nat
  /-- `OFF` (R28). -/
  off : Nat
  /-- `LEN` (R29). Every register holds a value: 0 while `lenHeld` is false (DESIGN CHOICE, log 3). -/
  len : Nat
  /-- Whether START has latched `LEN`: false is the "holds no value" of R29 and R34 (log 3). -/
  lenHeld : Bool
  /-- `FB`, the frame buffer, offsets 0 to 131 (R30, R54); no cell while it holds no value (log 3). -/
  fb : Memory
  /-- The wait timer (R33, R207): not armed, or armed with a duration. -/
  timer : Option Nat
  /-- The transport's output buffer: bytes on TX not yet on the wire (R33, R57). -/
  txPend : List Byte
  /-- The configuration record (R6, R32). -/
  cfg : Cfg
  /-- The image space `IMG` (R51), owned by the host. -/
  img : Memory
  /-- What the command port will be sampled as, oldest first; no command when none is listed (R92; log 1). -/
  cmds : List Command
  /-- What `RxRead` will answer, oldest first: the receiver's unread bytes in the order sent, and the deadlines that
  pass among them (R58, R62; log 1). -/
  rx : List RxAnswer
  /-- What `TxWrite` will answer, oldest first (R56; log 1). -/
  txAns : List TxAnswer
  /-- The model's own: how many free answers have been drawn (log 2). -/
  draws : Nat
  /-- The record of the run, oldest first: the streams TX (R55) and progress (R166) are read from it. -/
  trace : List PortOp
  /-- The model's own: the output of the pure functions, which no register of the block holds (log 7). -/
  fres : Option FuncResult
deriving DecidableEq, Repr

/-- The state after reset: the values of R34, `LEN` 0 where it holds none (log 3); the inputs are empty and `Cfg` has the defaults of R6 (log 4). -/
def State.reset : State :=
  { st := .awaitStart, seq := SEQ_INIT, err := 0, eerr := 0, succ := 0, errtot := 0, total := 0, off := 0,
    len := 0, lenHeld := false, fb := [], timer := none, txPend := [], cfg := Cfg.default, img := [], cmds := [], rx := [],
    txAns := [], draws := 0, trace := [], fres := none }

/-- Why the machine stops with a fault. -/
inductive Fault where
  /-- `FB` was read while it holds no value: raised by RETRY.RESEND, in states no run reaches (U2). Safe. -/
  | fbHasNoValue
deriving DecidableEq, Repr

/-- Why the machine gives an instruction no meaning. -/
inductive Refusal where
  /-- No meaning yet: raised by no arm that has a meaning. Safe. -/
  | notModelled (mnemonic : String)
  /-- The state does not select this step: its `require` is false, and "every pair not listed is impossible"
  (R200). Raised by an instruction executed where its row does not apply; `step` never selects it there. Safe. -/
  | stepNotSelected
  /-- `MemRead` outside the image: "a model gives it no meaning: it is refused" (R53, U7). Raised by SEND_BLOCK when
  the host's image is shorter than the length it gave START. Safe. -/
  | imageReadOutside
  /-- A pure function was given operands outside its argument types (R110: "total on the argument types stated").
  Raised by PADBLK, CHK, CHUNKLEN, ENCODE, DECODE on instructions that are not well formed. Safe. -/
  | operandOutsideDomain
deriving DecidableEq, Repr

/-- The outcome of a step of this machine. -/
abbrev Outcome := Host.Outcome State Fault Refusal

end Sys2Proof.Machine
end

