-- ==== Sys2Proof/Machine/Ops.lean ====
section
/-! DEFINITION. The shared operations: memory, the five port primitives (R10), writing `ST` with the wait timer
(R207), raising an error event (R190, R199) and the write-then-flush sequence (R133). -/

namespace Sys2Proof.Machine

/-! ### Memory -/

/-- The byte at an address, none where the address holds no value. -/
def memGet (m : Memory) (a : Nat) : Option Byte :=
  match m with
  | [] => none
  | (a', b) :: rest => if a' = a then some b else memGet rest a

/-- The `n` bytes from address `a` on, in ascending order; none unless all hold a value. -/
def memRead (m : Memory) (a n : Nat) : Option (List Byte) :=
  match n with
  | 0 => some []
  | n + 1 =>
    match memGet m a, memRead m (a + 1) n with
    | some b, some bs => some (b :: bs)
    | _, _ => none

/-- Write one byte, keeping the canonical form. -/
def memSet (m : Memory) (a : Nat) (b : Byte) : Memory :=
  match m with
  | [] => [(a, b)]
  | (a', b') :: rest =>
    if a < a' then (a, b) :: (a', b') :: rest
    else if a = a' then (a, b) :: rest
    else (a', b') :: memSet rest a b

/-- Write bytes from address `a` on, in ascending order. -/
def memWrite (m : Memory) (a : Nat) (bs : List Byte) : Memory :=
  match bs with
  | [] => m
  | b :: rest => memSet (memWrite m (a + 1) rest) a b

/-- `MemRead(a, n)` of an image of length `L`: defined when `a + n <= L` (R52), else refused (R53). -/
def imageRead (L : Nat) (img : Memory) (a n : Nat) : Option (List Byte) :=
  if a + n ≤ L then memRead img a n else none

/-- The frame in `FB`, read whole (R54); none while `FB` holds no value. -/
def frameInBuffer (s : State) : Option (List Byte) := memRead s.fb 0 FRAME_LEN

/-! ### The record -/

/-- Append to the record of the run. -/
def note (ops : List PortOp) (s : State) : State := { s with trace := s.trace ++ ops }

/-! ### The command port (R92) -/

/-- The sample of the command port: no command when the host lists none (log 1). -/
def command (s : State) : Command := s.cmds.headD ⟨0#2, 0⟩

/-- The sample is spent. -/
def popCommand (s : State) : State := { s with cmds := s.cmds.tail }

/-! ### The RX port (R58) -/

/-- The answer `RxRead` gives next: the oldest listed, else a free value. -/
def rxAnswer (s : State) : RxAnswer := s.rx.headD (Config.rxOracle s.draws)

/-- `RxRead()`: the answer is consumed, "none twice" (R58). -/
def rxRead (s : State) : State :=
  { s with
    rx := s.rx.tail
    draws := if s.rx.isEmpty then s.draws + 1 else s.draws
    trace := s.trace ++ [.rxRead (rxAnswer s)] }

/-! ### The state register and the wait timer -/

/-- What the wait timer holds once `ST` is `st` (R207): armed with `T_ACK` or `T_EOT` when a wait window opens,
disarmed when it closes. -/
def timerFor (cfg : Cfg) (st : St) : Option Nat :=
  match st with
  | .awaitAck => some cfg.tAck
  | .awaitEotAck => some cfg.tEot
  | .awaitStart | .sendBlock | .retry | .done | .failed | .sendEot => none

/-- `ST <- S`, the only write of `ST` (R21), with the wait timer (R207). -/
def goto (st : St) (s : State) : State := { s with st := st, timer := timerFor s.cfg st }

/-! ### Error events: entry (R199) -/

/-- `raise E`: the event occurs. "Nothing is saved: there is no handler and no context to restore" (R199); what it
changes besides is the raising rule's. -/
def raiseEvent (e : ErrorEvent) (s : State) : State := note [.raised e] s

/-- Taking a fatal event: "fatal events change `ST` to `FAILED` and nothing else" (R199). -/
def raiseFatal (e : ErrorEvent) (s : State) : State := goto .failed (raiseEvent e s)

/-! ### The TX port (R56, R57) and `Transmit` (R133) -/

/-- The answer `TxWrite` gives next: the oldest listed, else a free value. -/
def txAnswer (s : State) : TxAnswer := s.txAns.headD (Config.txOracle s.draws)

/-- The answer is spent. -/
def popTxAnswer (s : State) : State :=
  { s with
    txAns := s.txAns.tail
    draws := if s.txAns.isEmpty then s.draws + 1 else s.draws }

/-- `TxWrite(X)` answered `ok`: all of `X` is appended to TX and stands in the output buffer (R56). -/
def txWriteOk (X : List Byte) (s : State) : State :=
  { s with txPend := s.txPend ++ X, trace := s.trace ++ [.txOk X] }

/-- `TxWrite(X)` answered `fail`: a prefix of `X` reached TX, and some of the output buffer has left it (U4; log 8). -/
def txWriteFail (X : List Byte) (reached drained : Nat) (s : State) : State :=
  { s with
    txPend := (s.txPend ++ X.take reached).drop drained
    trace := s.trace ++ [.txFail X reached] }

/-- `TxFlush()`: the output buffer is empty before anything else happens (R57). -/
def txFlush (s : State) : State := { s with txPend := [], trace := s.trace ++ [.txFlush] }

/-- `Transmit(X)` and the rest `k` of the step that follows it (R133): when the write fails, `E_TXFAULT` ends the
step at once and `ST <- FAILED` stands in place of the step's own write of `ST`. -/
def transmitThen (X : List Byte) (k : State → State) (s : State) : State :=
  match txAnswer s with
  | .ok => k (txFlush (txWriteOk X (popTxAnswer s)))
  | .fail reached drained => raiseFatal .txFault (txWriteFail X reached drained (popTxAnswer s))

/-! ### The progress port (R166) -/

/-- `Progress(t, s, e)`: one event, output only. -/
def progressEvent (t ok bad : Nat) (s : State) : State := note [.progress t ok bad] s

/-! ### `require` -/

/-- "`require` states the condition under which the step is the one taken" (`41_transmit.md`): where it does not
hold the step is not this one (R200: "every pair not listed is impossible"; log 6). -/
def require (p : Prop) [Decidable p] (k : Outcome) : Outcome := if p then k else .refused .stepNotSelected

end Sys2Proof.Machine
end

