-- ==== Sys2Proof/WellFormed.lean ====
section
/-! DEFINITION. Which instructions are well formed: the operand ranges that the rows of `spec/opcode_table.json`
and their rules state. -/

namespace Sys2Proof

/-- The operand ranges, row by row. A row without operands is always well formed. -/
def Instr.wellFormed (i : Instr) : Bool :=
  match i with
  | .reset | .start | .startRefused | .nocmd => true
  | .awaitStart | .sendBlock | .awaitAckAck | .awaitAckNak | .awaitAckTimeout => true
  | .awaitAckNoise rxb => Machine.isNoise rxb
  | .retryFail | .retryResend | .done | .failed | .sendEot => true
  | .awaitEotAckAck | .awaitEotAckNak | .awaitEotAckTimeout => true
  | .awaitEotAckNoise rxb => Machine.isNoise rxb
  | .data sq cs pl ck => pl.length == BLOCK && cs == Machine.cseqOf sq && ck == Machine.chkOf pl
  | .eot | .ack | .nak => true
  | .noise b => Machine.isNoise b
  | .seqnext _ | .cseq _ => true
  | .padblk chunk => decide (chunk.length ≤ BLOCK)
  | .chk payload => payload.length == BLOCK
  | .chunklen L off => decide (off ≤ L)
  | .nblocks _ => true
  | .encode _ chunk => decide (chunk.length ≤ BLOCK)
  | .verify _ => true
  | .decode F => Machine.verifyFrame F
  | .verifyseq F _ => F.length == FRAME_LEN

end Sys2Proof
end

