-- ==== Sys2Proof/Machine/Acknowledge.lean ====
section
/-! DEFINITION. The acknowledger (`42_acknowledger.md`): the arms of the two waiting states, the states in which the
block takes no step, and the rows of the response byte, ACK, NAK and NOISE. -/

namespace Sys2Proof.Machine

/-! ### The effects -/

/-- The effect of an `ACK` of a data block (R151). -/
def ackBlockEffect (s : State) : State :=
  goto (if s.off = s.len then .sendEot else .sendBlock) <|
    progressEvent s.total (s.succ + 1) s.errtot <|
      { rxRead s with seq := seqNext s.seq, succ := s.succ + 1 }

/-- The effect of a failed attempt of a data block, by `NAK` (R152) or timeout (R153). -/
def failedAttemptEffect (e : ErrorEvent) (s : State) : State :=
  goto .retry <|
    progressEvent s.total s.succ (s.errtot + 1) <|
      { raiseEvent e (rxRead s) with err := s.err + 1, errtot := s.errtot + 1 }

/-- The effect of a noise byte (R154, R160): consumed and forgotten, no register written, the window unchanged. -/
def noiseEffect (s : State) : State := raiseEvent .noise (rxRead s)

/-- The effect of the final `ACK` (R157). -/
def finalAckEffect (s : State) : State := goto .done (rxRead s)

/-- The effect of a failed `EOT` attempt, by `NAK` (R158) or timeout (R159): the recoverable event first, then,
past the limit, the fatal one (R198). -/
def failedEotEffect (e : ErrorEvent) (s : State) : State :=
  let s' := { raiseEvent e (rxRead s) with eerr := s.eerr + 1 }
  if s.eerr + 1 > s.cfg.eotMaxRetry then raiseFatal .eotExhausted s' else goto .sendEot s'

/-! ### AWAIT_ACK -/

/-- AWAIT_ACK.ACK (R151). -/
def execAwaitAckAck (s : State) : Outcome :=
  require (s.st = .awaitAck ∧ rxAnswer s = .byte ACK) (.next (ackBlockEffect s))

/-- AWAIT_ACK.NAK (R152). -/
def execAwaitAckNak (s : State) : Outcome :=
  require (s.st = .awaitAck ∧ rxAnswer s = .byte NAK) (.next (failedAttemptEffect .nak s))

/-- AWAIT_ACK.TIMEOUT (R153). -/
def execAwaitAckTimeout (s : State) : Outcome :=
  require (s.st = .awaitAck ∧ rxAnswer s = .timeout) (.next (failedAttemptEffect .timeout s))

/-- AWAIT_ACK.NOISE (R154). -/
def execAwaitAckNoise (rxb : Byte) (s : State) : Outcome :=
  require (s.st = .awaitAck ∧ rxAnswer s = .byte rxb ∧ isNoise rxb) (.next (noiseEffect s))

/-! ### AWAIT_EOT_ACK -/

/-- AWAIT_EOT_ACK.ACK (R157). -/
def execAwaitEotAckAck (s : State) : Outcome :=
  require (s.st = .awaitEotAck ∧ rxAnswer s = .byte ACK) (.next (finalAckEffect s))

/-- AWAIT_EOT_ACK.NAK (R158). -/
def execAwaitEotAckNak (s : State) : Outcome :=
  require (s.st = .awaitEotAck ∧ rxAnswer s = .byte NAK) (.next (failedEotEffect .nak s))

/-- AWAIT_EOT_ACK.TIMEOUT (R159). -/
def execAwaitEotAckTimeout (s : State) : Outcome :=
  require (s.st = .awaitEotAck ∧ rxAnswer s = .timeout) (.next (failedEotEffect .timeout s))

/-- AWAIT_EOT_ACK.NOISE (R160). -/
def execAwaitEotAckNoise (rxb : Byte) (s : State) : Outcome :=
  require (s.st = .awaitEotAck ∧ rxAnswer s = .byte rxb ∧ isNoise rxb) (.next (noiseEffect s))

/-! ### The states that take no step -/

/-- AWAIT_START: "no step; the block waits for START" (R91, R130). -/
def execAwaitStart (s : State) : Outcome := require (s.st = .awaitStart) (.next s)

/-- DONE: "the block takes no step" (R162). -/
def execDone (s : State) : Outcome := require (s.st = .done) (.next s)

/-- FAILED: "the block takes no step" (R163). -/
def execFailed (s : State) : Outcome := require (s.st = .failed) (.next s)

/-! ### The response byte (R85; log 10) -/

/-- A response byte as an instruction: while a window is open it is the answer of `RxRead` and its class selects the
arm (R150); outside a window no `RxRead` is issued and the byte stays unread (R62, R90). -/
def respond (b : Byte) (data eot : Outcome) (s : State) : Outcome :=
  match s.st with
  | .awaitAck => require (rxAnswer s = .byte b) data
  | .awaitEotAck => require (rxAnswer s = .byte b) eot
  | .awaitStart | .sendBlock | .retry | .done | .failed | .sendEot => .next s

/-- ACK, the byte 0x06 (R85). -/
def execAck (s : State) : Outcome := respond ACK (.next (ackBlockEffect s)) (.next (finalAckEffect s)) s

/-- NAK, the byte 0x15 (R85). -/
def execNak (s : State) : Outcome :=
  respond NAK (.next (failedAttemptEffect .nak s)) (.next (failedEotEffect .nak s)) s

/-- NOISE, any other byte (R85, R86). -/
def execNoise (b : Byte) (s : State) : Outcome :=
  require (isNoise b) (respond b (.next (noiseEffect s)) (.next (noiseEffect s)) s)

end Sys2Proof.Machine
end

