-- ==== Sys2Proof/Decode.lean ====
section
/-! DEFINITION. The decoders of `30_encoding.md` (state codes R21, dispatch word R90 and table R91, command word R92,
response byte R85, items of TX R81 to R83), total on any bytes and rejecting by name; after them the encoder, written
from the same tables; last `decodeTableWord`, the host's entry. -/

namespace Sys2Proof

/-! ### The state register's codes (R21) -/

/-- The 3-bit encoding of `ST` (R21). -/
def St.code (st : St) : BitVec 3 :=
  match st with
  | .awaitStart => 0#3
  | .sendBlock => 1#3
  | .awaitAck => 2#3
  | .retry => 3#3
  | .done => 4#3
  | .failed => 5#3
  | .sendEot => 6#3
  | .awaitEotAck => 7#3

/-- The state a 3-bit value encodes; "all eight encodings are legal" (R21). -/
def St.ofCode (c : BitVec 3) : St :=
  if c = 0#3 then .awaitStart
  else if c = 1#3 then .sendBlock
  else if c = 2#3 then .awaitAck
  else if c = 3#3 then .retry
  else if c = 4#3 then .done
  else if c = 5#3 then .failed
  else if c = 6#3 then .sendEot
  else .awaitEotAck

/-! ### What the bits do not tell -/

/-- The register comparisons that tell apart two rows of one encoding (the `cond` of their table rows, R94):
`idle` for START against START.REFUSED (`ST = AWAIT_START`, R92), `exhausted` for RETRY.FAIL against RETRY.RESEND
(`ERR > Cfg.MAX_RETRY`, R91). -/
structure Cond where
  idle : Bool
  exhausted : Bool
deriving DecidableEq, Repr

/-! ### Decoding -/

/-- The command word `C = rst ++ start` (R92): RESET whatever `start` is, then START, else none. -/
def decodeCommand (k : Cond) (c : BitVec 2) : Instr :=
  if c.getLsbD 1 then .reset
  else if c.getLsbD 0 then (if k.idle then .start else .startRefused)
  else .nocmd

/-- The response byte (R85): total, every byte other than 0x06 and 0x15 is noise. -/
def decodeResponse (b : Byte) : Instr :=
  if b = ACK then .ack else if b = NAK then .nak else .noise b

/-- The dispatch word `D = ST ++ rxv ++ rxb` (R90). -/
def dispatchWordOf (st : St) (rxv : Bool) (rxb : Byte) : BitVec 12 :=
  (st.code ++ BitVec.ofBool rxv) ++ rxb

/-- The steps the dispatch table selects (R91), one for each row of the table's DISPATCH format. -/
inductive DispatchRow where
  | awaitStart
  | sendBlock
  | awaitAckAck
  | awaitAckNak
  | awaitAckTimeout
  | awaitAckNoise (rxb : Byte)
  | retryFail
  | retryResend
  | done
  | failed
  | sendEot
  | awaitEotAckAck
  | awaitEotAckNak
  | awaitEotAckTimeout
  | awaitEotAckNoise (rxb : Byte)
deriving DecidableEq, Repr

/-- The instruction of a dispatch row. -/
def DispatchRow.toInstr (r : DispatchRow) : Instr :=
  match r with
  | .awaitStart => .awaitStart
  | .sendBlock => .sendBlock
  | .awaitAckAck => .awaitAckAck
  | .awaitAckNak => .awaitAckNak
  | .awaitAckTimeout => .awaitAckTimeout
  | .awaitAckNoise rxb => .awaitAckNoise rxb
  | .retryFail => .retryFail
  | .retryResend => .retryResend
  | .done => .done
  | .failed => .failed
  | .sendEot => .sendEot
  | .awaitEotAckAck => .awaitEotAckAck
  | .awaitEotAckNak => .awaitEotAckNak
  | .awaitEotAckTimeout => .awaitEotAckTimeout
  | .awaitEotAckNoise rxb => .awaitEotAckNoise rxb

/-- The field `ST = D[11:9]` of a dispatch word (R90). -/
def dispatchSt (d : BitVec 12) : St := St.ofCode (d.extractLsb' 9 3)
/-- The field `rxv = D[8]` (R90). -/
def dispatchRxv (d : BitVec 12) : Bool := d.getLsbD 8
/-- The field `rxb = D[7:0]` (R90). -/
def dispatchRxb (d : BitVec 12) : Byte := d.extractLsb' 0 8

/-- Step selection by the fields of the dispatch word: total, no value is illegal (R91). -/
def decodeDispatch (k : Cond) (d : BitVec 12) : DispatchRow :=
  match dispatchSt d with
  | .awaitStart => .awaitStart
  | .sendBlock => .sendBlock
  | .awaitAck =>
    if dispatchRxv d then
      if dispatchRxb d = ACK then .awaitAckAck
      else if dispatchRxb d = NAK then .awaitAckNak
      else .awaitAckNoise (dispatchRxb d)
    else .awaitAckTimeout
  | .retry => if k.exhausted then .retryFail else .retryResend
  | .done => .done
  | .failed => .failed
  | .sendEot => .sendEot
  | .awaitEotAck =>
    if dispatchRxv d then
      if dispatchRxb d = ACK then .awaitEotAckAck
      else if dispatchRxb d = NAK then .awaitEotAckNak
      else .awaitEotAckNoise (dispatchRxb d)
    else .awaitEotAckTimeout

/-- One row of the table of R91 as it stands there: match, mask and the step, which may need the word's byte and
the condition on `ERR`. -/
structure DispatchEntry where
  pattern : BitVec 12
  mask : BitVec 12
  row : Cond → Byte → DispatchRow

/-- The dispatch table of R91, its rows in the table's order. -/
def dispatchTable : List DispatchEntry :=
  [ ⟨0x000#12, 0xE00#12, fun _ _ => .awaitStart⟩,
    ⟨0x200#12, 0xE00#12, fun _ _ => .sendBlock⟩,
    ⟨0x506#12, 0xFFF#12, fun _ _ => .awaitAckAck⟩,
    ⟨0x515#12, 0xFFF#12, fun _ _ => .awaitAckNak⟩,
    ⟨0x400#12, 0xF00#12, fun _ _ => .awaitAckTimeout⟩,
    ⟨0x500#12, 0xF00#12, fun _ b => .awaitAckNoise b⟩,
    ⟨0x600#12, 0xE00#12, fun k _ => if k.exhausted then .retryFail else .retryResend⟩,
    ⟨0x800#12, 0xE00#12, fun _ _ => .done⟩,
    ⟨0xA00#12, 0xE00#12, fun _ _ => .failed⟩,
    ⟨0xC00#12, 0xE00#12, fun _ _ => .sendEot⟩,
    ⟨0xF06#12, 0xFFF#12, fun _ _ => .awaitEotAckAck⟩,
    ⟨0xF15#12, 0xFFF#12, fun _ _ => .awaitEotAckNak⟩,
    ⟨0xE00#12, 0xF00#12, fun _ _ => .awaitEotAckTimeout⟩,
    ⟨0xF00#12, 0xF00#12, fun _ b => .awaitEotAckNoise b⟩ ]

/-- "Rows are tried top to bottom; the first whose `D and mask = match` holds selects the step" (R91). -/
def tableDispatch (k : Cond) (d : BitVec 12) : Option DispatchRow :=
  (dispatchTable.find? fun e => d &&& e.mask == e.pattern).map fun e => e.row k (d.extractLsb' 0 8)

/-- The kinds of encoding (`format` of a table row, R94): which decoder reads a word is told by where the word
stands, not by its bits. `tx` holds both F132 and F1, told apart by their first byte (R83). -/
inductive Format where
  | cmd
  | dispatch
  | tx
  | rsp
  | func
deriving DecidableEq, Repr

/-- Why bytes are not an instruction of a format. -/
inductive DecodeError where
  /-- Fewer bytes than the format's item has. -/
  | truncated
  /-- A bit above the 2 bits of a command word or the 12 bits of a dispatch word is set. -/
  | bitsAboveWord
  /-- A TX item begins with neither 0x01 nor 0x04: "no other first byte occurs on TX" (R83). -/
  | noSuchTxItem
  /-- No bits select a pure function (R94). -/
  | noEncoding
deriving DecidableEq, Repr

/-- The next item of TX and the bytes after it (R83): 0x01 starts a data frame of 132 bytes, 0x04 is `EOT`. -/
def decodeTxItem (bs : List Byte) : Except DecodeError (Instr × List Byte) :=
  match bs with
  | [] => .error .truncated
  | b :: rest =>
    if b = EOT then .ok (.eot, rest)
    else if b = SOH then
      if bs.length < FRAME_LEN then .error .truncated
      else .ok (.data (Machine.byteAt bs 1) (Machine.byteAt bs 2) (Machine.payloadOf bs) (Machine.byteAt bs 131),
        bs.drop FRAME_LEN)
    else .error .noSuchTxItem

/-- Decoding any bytes as an item of a format: the instruction and the bytes left, or the reason there is none.
A command word is the low bits of one byte, a dispatch word of two bytes, the low byte first (log 5). -/
def decode (k : Cond) (f : Format) (bs : List Byte) : Except DecodeError (Instr × List Byte) :=
  match f with
  | .cmd =>
    match bs with
    | [] => .error .truncated
    | b :: rest =>
      if b.extractLsb' 2 6 = 0#6 then .ok (decodeCommand k (b.extractLsb' 0 2), rest) else .error .bitsAboveWord
  | .dispatch =>
    match bs with
    | lo :: hi :: rest =>
      if hi.extractLsb' 4 4 = 0#4 then
        .ok ((decodeDispatch k (hi.extractLsb' 0 4 ++ lo)).toInstr, rest)
      else .error .bitsAboveWord
    | _ => .error .truncated
  | .tx => decodeTxItem bs
  | .rsp =>
    match bs with
    | [] => .error .truncated
    | b :: rest => .ok (decodeResponse b, rest)
  | .func => .error .noEncoding

/-! ### Encoding -/

/-- The format of an instruction's row (R94). -/
def Instr.format (i : Instr) : Format :=
  match i with
  | .reset | .start | .startRefused | .nocmd => .cmd
  | .awaitStart | .sendBlock | .awaitAckAck | .awaitAckNak | .awaitAckTimeout | .awaitAckNoise _ => .dispatch
  | .retryFail | .retryResend | .done | .failed | .sendEot => .dispatch
  | .awaitEotAckAck | .awaitEotAckNak | .awaitEotAckTimeout | .awaitEotAckNoise _ => .dispatch
  | .data _ _ _ _ | .eot => .tx
  | .ack | .nak | .noise _ => .rsp
  | .seqnext _ | .cseq _ | .padblk _ | .chk _ | .chunklen _ _ | .nblocks _ | .encode _ _ => .func
  | .verify _ | .decode _ | .verifyseq _ _ => .func

/-- The condition of an instruction's row that its bits do not carry (`cond` of the table); a row without one takes
either value. -/
def Instr.cond (i : Instr) : Cond :=
  { idle := i != .startRefused, exhausted := i == .retryFail }

/-- The two bytes of a dispatch word, the low byte first (log 5). -/
def dispatchBytes (d : BitVec 12) : List Byte := [d.extractLsb' 0 8, 0#4 ++ d.extractLsb' 8 4]

/-- The bytes of a well-formed instruction in its row's format. Bits a row leaves open ("any") are zeros. A pure
function has the empty encoding (R94). -/
def encode (i : Instr) : List Byte :=
  match i with
  | .reset => [0x02#8]
  | .start | .startRefused => [0x01#8]
  | .nocmd => [0x00#8]
  | .awaitStart => dispatchBytes (dispatchWordOf .awaitStart false 0#8)
  | .sendBlock => dispatchBytes (dispatchWordOf .sendBlock false 0#8)
  | .awaitAckAck => dispatchBytes (dispatchWordOf .awaitAck true ACK)
  | .awaitAckNak => dispatchBytes (dispatchWordOf .awaitAck true NAK)
  | .awaitAckTimeout => dispatchBytes (dispatchWordOf .awaitAck false 0#8)
  | .awaitAckNoise rxb => dispatchBytes (dispatchWordOf .awaitAck true rxb)
  | .retryFail | .retryResend => dispatchBytes (dispatchWordOf .retry false 0#8)
  | .done => dispatchBytes (dispatchWordOf .done false 0#8)
  | .failed => dispatchBytes (dispatchWordOf .failed false 0#8)
  | .sendEot => dispatchBytes (dispatchWordOf .sendEot false 0#8)
  | .awaitEotAckAck => dispatchBytes (dispatchWordOf .awaitEotAck true ACK)
  | .awaitEotAckNak => dispatchBytes (dispatchWordOf .awaitEotAck true NAK)
  | .awaitEotAckTimeout => dispatchBytes (dispatchWordOf .awaitEotAck false 0#8)
  | .awaitEotAckNoise rxb => dispatchBytes (dispatchWordOf .awaitEotAck true rxb)
  | .data seq cseq payload chk => Machine.dataFrame seq cseq payload chk
  | .eot => [EOT]
  | .ack => [ACK]
  | .nak => [NAK]
  | .noise b => [b]
  | .seqnext _ | .cseq _ | .padblk _ | .chk _ | .chunklen _ _ | .nblocks _ | .encode _ _ => []
  | .verify _ | .decode _ | .verifyseq _ _ => []

/-! ### The host's entry: words numbered as the opcode table numbers them -/

/-- Which format a table word of `nbits` bits is read in (log 5). The widths of the table tell the formats apart
but for CMD, F1 and RSP, which all fill one byte: there 0 to 3 is read as a command word, 4 as `EOT` and any other
byte as a response. -/
def tableFormat (nbits w : Nat) : Option Format :=
  if nbits = 0 ∨ w ≥ 2 ^ nbits then none
  else if nbits ≤ 8 then some (if w < 4 then .cmd else if w = 4 then .tx else .rsp)
  else if nbits ≤ 16 then some .dispatch
  else if nbits = 8 * FRAME_LEN then some .tx
  else none

/-- The bytes of a table word: a frame has byte 0 in its most significant bits (R81), a shorter word its least
significant byte first. -/
def tableBytes (nbits w : Nat) : List Byte :=
  if nbits ≤ 8 then [BitVec.ofNat 8 w]
  else if nbits ≤ 16 then [BitVec.ofNat 8 w, BitVec.ofNat 8 (w / 256)]
  else (List.range FRAME_LEN).map fun i => BitVec.ofNat 8 (w / 2 ^ (8 * (FRAME_LEN - 1 - i)))

/-- The conditions under which a table word is read: those of the state after reset (`ST = AWAIT_START`, `ERR = 0`),
so that of two rows with one encoding START and RETRY.RESEND are read. -/
def tableCond : Cond := { idle := true, exhausted := false }

/-- The instruction the decoder reads from a table word, none where it refuses or the word is not one item whole. -/
def decodeTableWord (nbits w : Nat) : Option Instr :=
  match tableFormat nbits w with
  | none => none
  | some f =>
    match decode tableCond f (tableBytes nbits w) with
    | .ok (i, []) => some i
    | .ok (_, _ :: _) => none
    | .error _ => none

end Sys2Proof
end

