-- ==== Sys2Proof/Machine/Flags.lean ====
section
/-! DEFINITION. The status outputs (R31) and the streams read from the record of a run: TX (R55), the progress
events (R166), the error events (R190), and the part of the record that belongs to the present session. -/

namespace Sys2Proof.Machine

/-- `busy` (R31). -/
def busy (s : State) : Bool :=
  match s.st with
  | .sendBlock | .awaitAck | .retry | .sendEot | .awaitEotAck => true
  | .awaitStart | .done | .failed => false

/-- `done` (R31). -/
def doneOut (s : State) : Bool :=
  match s.st with
  | .done | .failed => true
  | .awaitStart | .sendBlock | .awaitAck | .retry | .sendEot | .awaitEotAck => false

/-- `result` (R31), meaningful only while `done` is 1. -/
def resultOut (s : State) : Bool := s.st == .done

/-- A wait window is open (R150). -/
def windowOpen (s : State) : Bool :=
  match s.st with
  | .awaitAck | .awaitEotAck => true
  | .awaitStart | .sendBlock | .retry | .done | .failed | .sendEot => false

/-- `ERR > Cfg.MAX_RETRY`, the strict comparison of RETRY (R134; conflict C3). -/
def retriesExhausted (s : State) : Bool := decide (s.err > s.cfg.maxRetry)

/-- The bytes one entry of the record put on TX (R56). -/
def PortOp.txBytes (op : PortOp) : List Byte :=
  match op with
  | .txOk X => X
  | .txFail X reached => X.take reached
  | .reset | .start _ | .memRead _ _ | .memWrite _ _ | .txFlush | .rxRead _ | .progress _ _ _ | .raised _ => []

/-- The progress event of an entry, if it is one. -/
def PortOp.progressTriple (op : PortOp) : Option (Nat × Nat × Nat) :=
  match op with
  | .progress t s e => some (t, s, e)
  | .reset | .start _ | .memRead _ _ | .memWrite _ _ | .txOk _ | .txFail _ _ | .txFlush | .rxRead _ | .raised _ => none

/-- The error event of an entry, if it is one. -/
def PortOp.errorEvent (op : PortOp) : Option ErrorEvent :=
  match op with
  | .raised e => some e
  | .reset | .start _ | .memRead _ _ | .memWrite _ _ | .txOk _ | .txFail _ _ | .txFlush | .rxRead _
  | .progress _ _ _ => none

/-- TX: "the sequence of all bytes the block has written, in the order written" (R55). -/
def txStream (s : State) : List Byte := s.trace.flatMap PortOp.txBytes

/-- The progress events, in order (R166). -/
def progressStream (s : State) : List (Nat × Nat × Nat) := s.trace.filterMap PortOp.progressTriple

/-- The error events, in order (R190). -/
def eventStream (s : State) : List ErrorEvent := s.trace.filterMap PortOp.errorEvent

/-- The entries after the last RESET: the record of the present session (R12: "Session"). -/
def sessionOps (ops : List PortOp) : List PortOp :=
  ops.foldl (fun acc op => if op = .reset then [] else acc ++ [op]) []

/-- Is the entry a data frame written whole to TX? -/
def PortOp.isFrameSent (op : PortOp) : Bool :=
  match op with
  | .txOk X => X.length == FRAME_LEN
  | .reset | .start _ | .memRead _ _ | .memWrite _ _ | .txFail _ _ | .txFlush | .rxRead _ | .progress _ _ _
  | .raised _ => false

/-- Is the entry an `EOT` written to TX? -/
def PortOp.isEotSent (op : PortOp) : Bool := op == .txOk [EOT]

/-- Is the entry a progress event? -/
def PortOp.isProgress (op : PortOp) : Bool := op.progressTriple.isSome

/-- Data frames the present session has written to TX, first sends and re-sends alike (R27). -/
def framesSent (s : State) : Nat := (sessionOps s.trace).countP PortOp.isFrameSent

/-- `EOT` bytes the present session has written to TX (R209). -/
def eotsSent (s : State) : Nat := (sessionOps s.trace).countP PortOp.isEotSent

/-- Progress events of the present session (R167). -/
def progressCount (s : State) : Nat := (sessionOps s.trace).countP PortOp.isProgress

end Sys2Proof.Machine
end

