-- ==== Sys2Proof/Machine/Operands.lean ====
section
/-! DEFINITION. How an instruction is selected: the conditions the bits do not carry, the sample of the command port
(R92) and the dispatch word (R90, R91). The one addressing mode, `OFF` post-incremented (R137), is in SEND_BLOCK. -/

namespace Sys2Proof.Machine

/-- The register comparisons that select between rows of one encoding (R91, R92). -/
def condOf (s : State) : Cond := { idle := s.st == .awaitStart, exhausted := retriesExhausted s }

/-- The dispatch word (R90): in a waiting state from the answer `RxRead` gives, else `rxv = 0, rxb = 0`. -/
def dispatchWord (s : State) : BitVec 12 :=
  if windowOpen s then
    match rxAnswer s with
    | .byte b => dispatchWordOf s.st true b
    | .timeout => dispatchWordOf s.st false 0#8
  else dispatchWordOf s.st false 0#8

/-- The instruction the command port selects (R92). -/
def selectedCommand (s : State) : Instr := decodeCommand (condOf s) (command s).word

/-- The step the dispatch word selects (R91). -/
def selectedRow (s : State) : DispatchRow := decodeDispatch (condOf s) (dispatchWord s)

end Sys2Proof.Machine
end

