-- ==== Sys2Proof/Machine/Transmit.lean ====
section
/-! DEFINITION. The transmit steps (`41_transmit.md`): SEND_BLOCK, RETRY.FAIL, RETRY.RESEND, SEND_EOT, and the rows
of what they emit on TX, DATA and EOT. -/

namespace Sys2Proof.Machine

/-! ### The effects -/

/-- The effect of SEND_BLOCK (R132): one load at `OFF`, which is post-incremented (R137), one store to `FB`. -/
def sendBlockEffect (s : State) : Outcome :=
  let n := chunkLen s.len s.off
  match imageRead s.len s.img s.off n with
  | none => .refused .imageReadOutside
  | some c =>
    let F := encodeFrame s.seq c
    .next <|
      transmitThen F (fun s => goto .awaitAck { s with total := s.total + 1 })
        (note [.memRead s.off n, .memWrite 0 F]
          { s with fb := memWrite s.fb 0 F, off := s.off + n, err := 0 })

/-- The effect of RETRY.RESEND, the return from a failed attempt (R135, R201): `FB` as it stands. -/
def resendEffect (s : State) : Outcome :=
  match frameInBuffer s with
  | none => .fault .fbHasNoValue
  | some F => .next (transmitThen F (fun s => goto .awaitAck { s with total := s.total + 1 }) s)

/-- The effect of SEND_EOT (R136): first send and re-send are the same step and the same byte. -/
def sendEotEffect (s : State) : State := transmitThen [EOT] (goto .awaitEotAck) s

/-- The frame the block is about to emit: the one SEND_BLOCK builds (R132), the one RETRY re-sends (R135); none
elsewhere (R80). -/
def frameToEmit (s : State) : Option (List Byte) :=
  match s.st with
  | .sendBlock => (imageRead s.len s.img s.off (chunkLen s.len s.off)).map (encodeFrame s.seq)
  | .retry => if retriesExhausted s then none else frameInBuffer s
  | .awaitStart | .awaitAck | .done | .failed | .sendEot | .awaitEotAck => none

/-- The effect of the step that emits a frame. -/
def emitEffect (s : State) : Outcome := if s.st = .sendBlock then sendBlockEffect s else resendEffect s

/-! ### The instructions -/

/-- SEND_BLOCK (R132). -/
def execSendBlock (s : State) : Outcome := require (s.st = .sendBlock) (sendBlockEffect s)

/-- RETRY.FAIL (R134): raises `E_RETRY_EXHAUSTED`; nothing is written to TX. -/
def execRetryFail (s : State) : Outcome :=
  require (s.st = .retry ∧ s.err > s.cfg.maxRetry) (.next (raiseFatal .retryExhausted s))

/-- RETRY.RESEND (R135). -/
def execRetryResend (s : State) : Outcome :=
  require (s.st = .retry ∧ s.err ≤ s.cfg.maxRetry) (resendEffect s)

/-- SEND_EOT (R136). -/
def execSendEot (s : State) : Outcome := require (s.st = .sendEot) (.next (sendEotEffect s))

/-- DATA (R81, R11 `TX DATA`): the step that emits this frame, SEND_BLOCK or RETRY.RESEND (R80; log 10). -/
def execData (seq cseq : Byte) (payload : List Byte) (chk : Byte) (s : State) : Outcome :=
  require (frameToEmit s = some (dataFrame seq cseq payload chk)) (emitEffect s)

/-- EOT (R82, R11 `TX EOT`): the step that emits the byte, SEND_EOT (R80; log 10). -/
def execEot (s : State) : Outcome := require (s.st = .sendEot) (.next (sendEotEffect s))

end Sys2Proof.Machine
end

