-- ==== Sys2Proof/Machine/Commands.lean ====
section
/-! DEFINITION. The commands of the host (R92): RESET (R220, R221), START accepted (R130) and refused (R131), and no
command, with which the block takes the step the dispatch word selects. -/

namespace Sys2Proof.Machine

/-- The effect of RESET (R220); `LEN`, which then holds no value, reads as 0 (log 3). "RESET writes nothing to TX, reads nothing from RX and does not touch the
transport's buffers"; what is not the block's stays. -/
def resetEffect (s : State) : State :=
  goto .awaitStart <|
    note [.reset]
      { s with
        seq := SEQ_INIT, err := 0, eerr := 0, succ := 0, errtot := 0, total := 0, off := 0, len := 0, lenHeld := false,
        fb := [] }

/-- The effect of START with length `L` (R130). -/
def startEffect (L : Nat) (s : State) : State :=
  goto (if L = 0 then .sendEot else .sendBlock) (note [.start L] { s with len := L, lenHeld := true })

/-- The step of a dispatch row. -/
def runRow (r : DispatchRow) (s : State) : Outcome :=
  match r with
  | .awaitStart => execAwaitStart s
  | .sendBlock => execSendBlock s
  | .awaitAckAck => execAwaitAckAck s
  | .awaitAckNak => execAwaitAckNak s
  | .awaitAckTimeout => execAwaitAckTimeout s
  | .awaitAckNoise rxb => execAwaitAckNoise rxb s
  | .retryFail => execRetryFail s
  | .retryResend => execRetryResend s
  | .done => execDone s
  | .failed => execFailed s
  | .sendEot => execSendEot s
  | .awaitEotAckAck => execAwaitEotAckAck s
  | .awaitEotAckNak => execAwaitEotAckNak s
  | .awaitEotAckTimeout => execAwaitEotAckTimeout s
  | .awaitEotAckNoise rxb => execAwaitEotAckNoise rxb s

/-- RESET: `C = 1x`, accepted in every state (R220, R221). -/
def execReset (s : State) : Outcome :=
  require ((command s).word.getLsbD 1 = true) (.next (resetEffect (popCommand s)))

/-- START: `C = 01` in `AWAIT_START` (R130). -/
def execStart (s : State) : Outcome :=
  require ((command s).word = 1#2 ∧ s.st = .awaitStart) (.next (startEffect (command s).len (popCommand s)))

/-- START.REFUSED: `C = 01` elsewhere; "nothing is read and nothing is written; `L` is not sampled" (R131). -/
def execStartRefused (s : State) : Outcome :=
  require ((command s).word = 1#2 ∧ s.st ≠ .awaitStart) (.next (popCommand s))

/-- NOCMD: `C = 00`; the block takes the step `D` selects (R91, R92). -/
def execNocmd (s : State) : Outcome :=
  require ((command s).word = 0#2) (runRow (selectedRow (popCommand s)) (popCommand s))

end Sys2Proof.Machine
end

