-- ==== Sys2Proof/Machine/Functional.lean ====
section
/-! DEFINITION. The rows of the pure functions (R110 to R116, R181, R182). Their result is put on the model's own
output `fres`; no register, memory or port of the block is touched (R110; log 7). -/

namespace Sys2Proof.Machine

/-- A pure function gives a result. -/
def give (r : FuncResult) (s : State) : Outcome := .next { s with fres := some r }

/-- A pure function is defined on its argument types (R110). -/
def onDomain (p : Bool) (k : Outcome) : Outcome := if p then k else .refused .operandOutsideDomain

/-- SEQNEXT (R111). -/
def execSeqnext (seq : Byte) (s : State) : Outcome := give (.byte (seqNext seq)) s

/-- CSEQ (R112). -/
def execCseq (seq : Byte) (s : State) : Outcome := give (.byte (cseqOf seq)) s

/-- PADBLK (R113). -/
def execPadblk (chunk : List Byte) (s : State) : Outcome :=
  onDomain (decide (chunk.length ≤ BLOCK)) (give (.bytes (padBlk chunk)) s)

/-- CHK (R114). -/
def execChk (payload : List Byte) (s : State) : Outcome :=
  onDomain (payload.length == BLOCK) (give (.byte (chkOf payload)) s)

/-- CHUNKLEN (R115). -/
def execChunklen (L off : Nat) (s : State) : Outcome :=
  onDomain (decide (off ≤ L)) (give (.nat (chunkLen L off)) s)

/-- NBLOCKS (R115). -/
def execNblocks (L : Nat) (s : State) : Outcome := give (.nat (nBlocks L)) s

/-- ENCODE (R116). -/
def execEncode (seq : Byte) (chunk : List Byte) (s : State) : Outcome :=
  onDomain (decide (chunk.length ≤ BLOCK)) (give (.bytes (encodeFrame seq chunk)) s)

/-- VERIFY (R181), a predicate on any byte sequence. -/
def execVerify (F : List Byte) (s : State) : Outcome := give (.bool (verifyFrame F)) s

/-- DECODE (R182), on `F` with `VERIFY(F)`. -/
def execDecode (F : List Byte) (s : State) : Outcome :=
  onDomain (verifyFrame F) (give (.seqPayload (decodeFrame F).1 (decodeFrame F).2) s)

/-- VERIFYSEQ (R182): false on a sequence of another length, as VERIFY is (R181). -/
def execVerifyseq (F : List Byte) (exp : Byte) (s : State) : Outcome := give (.bool (verifySeq F exp)) s

end Sys2Proof.Machine
end

