-- ==== Sys2Proof/Machine/Dispatch.lean ====
section
/-! DEFINITION. The dispatch: one arm per constructor of `Instr`. -/

namespace Sys2Proof.Machine

def exec (i : Instr) (s : State) : Host.Outcome State Fault Refusal :=
  match i with
  | .reset => Sys2Proof.Machine.execReset s
  | .start => Sys2Proof.Machine.execStart s
  | .startRefused => Sys2Proof.Machine.execStartRefused s
  | .nocmd => Sys2Proof.Machine.execNocmd s
  | .awaitStart => Sys2Proof.Machine.execAwaitStart s
  | .sendBlock => Sys2Proof.Machine.execSendBlock s
  | .awaitAckAck => Sys2Proof.Machine.execAwaitAckAck s
  | .awaitAckNak => Sys2Proof.Machine.execAwaitAckNak s
  | .awaitAckTimeout => Sys2Proof.Machine.execAwaitAckTimeout s
  | .awaitAckNoise rxb => Sys2Proof.Machine.execAwaitAckNoise rxb s
  | .retryFail => Sys2Proof.Machine.execRetryFail s
  | .retryResend => Sys2Proof.Machine.execRetryResend s
  | .done => Sys2Proof.Machine.execDone s
  | .failed => Sys2Proof.Machine.execFailed s
  | .sendEot => Sys2Proof.Machine.execSendEot s
  | .awaitEotAckAck => Sys2Proof.Machine.execAwaitEotAckAck s
  | .awaitEotAckNak => Sys2Proof.Machine.execAwaitEotAckNak s
  | .awaitEotAckTimeout => Sys2Proof.Machine.execAwaitEotAckTimeout s
  | .awaitEotAckNoise rxb => Sys2Proof.Machine.execAwaitEotAckNoise rxb s
  | .data seq cseq payload chk => Sys2Proof.Machine.execData seq cseq payload chk s
  | .eot => Sys2Proof.Machine.execEot s
  | .ack => Sys2Proof.Machine.execAck s
  | .nak => Sys2Proof.Machine.execNak s
  | .noise b => Sys2Proof.Machine.execNoise b s
  | .seqnext seq => Sys2Proof.Machine.execSeqnext seq s
  | .cseq seq => Sys2Proof.Machine.execCseq seq s
  | .padblk chunk => Sys2Proof.Machine.execPadblk chunk s
  | .chk payload => Sys2Proof.Machine.execChk payload s
  | .chunklen L off => Sys2Proof.Machine.execChunklen L off s
  | .nblocks L => Sys2Proof.Machine.execNblocks L s
  | .encode seq chunk => Sys2Proof.Machine.execEncode seq chunk s
  | .verify F => Sys2Proof.Machine.execVerify F s
  | .decode F => Sys2Proof.Machine.execDecode F s
  | .verifyseq F exp => Sys2Proof.Machine.execVerifyseq F exp s

end Sys2Proof.Machine
end

