-- ==== Sys2Proof/Machine/Fetch.lean ====
section
/-! DEFINITION. Placing a table word where the machine takes its next instruction from: the command port, or the
state register with the transport's answer, with what the selected step reads where the state lacks it (log 11). -/

namespace Sys2Proof.Machine

/-- `ST` takes this value and the host gives no command. -/
def placeSt (st : St) (s : State) : State := { goto st s with cmds := [] }

/-- The host gives this command next, with the image's length as `L` (R92); the word of START is read as START, which
needs `ST = AWAIT_START` (log 5). -/
def placeCommand (w : Nat) (s : State) : State :=
  let s := if w = 1 then goto .awaitStart s else s
  { s with cmds := ⟨BitVec.ofNat 2 w, s.img.length⟩ :: s.cmds }

/-- The next `TxWrite` succeeds, where the state lists no answer. -/
def withTxAnswer (s : State) : State := { s with txAns := if s.txAns.isEmpty then [.ok] else s.txAns }

/-- `LEN` is latched, where it was not: the image ends at `OFF`. -/
def withLen (s : State) : State := { s with len := if s.lenHeld then s.len else s.off, lenHeld := true }

/-- There is a block to send at `OFF`: where there was none, one more byte of image (value 0). -/
def withBlock (s : State) : State :=
  if s.lenHeld ∧ s.off < s.len ∧ (imageRead s.len s.img s.off (chunkLen s.len s.off)).isSome then s
  else { s with len := s.off + 1, lenHeld := true, img := memSet s.img s.off 0#8 }

/-- `FB` holds a frame, where it held none: an all-filler one. -/
def withFrame (s : State) : State :=
  if (frameInBuffer s).isSome then s else { s with fb := memWrite s.fb 0 (encodeFrame s.seq []) }

/-- The retry limit is not passed, where it was: the word of RETRY is read as RETRY.RESEND (log 5). -/
def withRetriesLeft (s : State) : State := { s with err := if retriesExhausted s then 0 else s.err }

/-- The answer `RxRead` gives next. -/
def placeRx (a : RxAnswer) (s : State) : State := { s with rx := a :: s.rx }

/-- A dispatch word: `ST`, the answer of `RxRead` in a waiting state, and what the step reads. -/
def placeDispatch (d : BitVec 12) (s : State) : State :=
  let answer := if dispatchRxv d then RxAnswer.byte (dispatchRxb d) else .timeout
  match dispatchSt d with
  | .awaitStart => placeSt .awaitStart s
  | .sendBlock => withTxAnswer (withBlock (placeSt .sendBlock s))
  | .awaitAck => placeRx answer (withLen (placeSt .awaitAck s))
  | .retry => withTxAnswer (withRetriesLeft (withFrame (placeSt .retry s)))
  | .done => placeSt .done s
  | .failed => placeSt .failed s
  | .sendEot => withTxAnswer (placeSt .sendEot s)
  | .awaitEotAck => placeRx answer (placeSt .awaitEotAck s)

/-- A response byte: the oldest unread byte of the open window; a data window where none is open. -/
def placeResponse (b : Byte) (s : State) : State :=
  placeRx (.byte b) (withLen (placeSt (if s.st = .awaitEotAck then .awaitEotAck else .awaitAck) s))

/-- A data frame: `FB` holds it and RETRY re-sends it. -/
def placeFrame (F : List Byte) (s : State) : State :=
  withTxAnswer (withRetriesLeft (placeSt .retry { s with fb := memWrite s.fb 0 F }))

/-- A table word (`decodeTableWord` reads it the same way): placed so that the next step runs it. -/
def placeTableWord (nbits w : Nat) (s : State) : State :=
  match tableFormat nbits w with
  | some .cmd => placeCommand w s
  | some .dispatch => placeDispatch (BitVec.ofNat 12 w) s
  | some .rsp => placeResponse (BitVec.ofNat 8 w) s
  | some .tx => if nbits ≤ 8 then withTxAnswer (placeSt .sendEot s) else placeFrame (tableBytes nbits w) s
  | some .func => s
  | none => s

end Sys2Proof.Machine
end

