-- ==== Sys2Proof/Machine/Step.lean ====
section
/-! DEFINITION. One step: the command port is sampled between steps, RESET before START before the step `D` selects
(R92). -/

namespace Sys2Proof.Machine

/-- One step of the machine: the instruction the command port selects; with no command that is NOCMD, which takes the
step the dispatch word selects (R91, R92). -/
def step (s : State) : Host.Outcome State Fault Refusal := exec (selectedCommand s) s

/-- The state with a table word placed so that the next step runs exactly it (log 11). -/
def State.withFetchWord (s : State) (nbits w : Nat) : State := placeTableWord nbits w s

end Sys2Proof.Machine
end

