-- ==== Sys2Proof/Safety.lean ====
section
/-! DEFINITION. What a safe run is, in the terms the statements use: the registers as a list with the write matrix
(R35), the transition table (R200), the invariants of R36 with what they rest on, the counts behind the bounds of
R209, and how far a session is from its end. -/

namespace Sys2Proof.Safety

open Sys2Proof.Machine

/-! ### Registers and what a step may write -/

/-- The ten pieces of state of R20. -/
inductive Reg where
  | ST
  | SEQ
  | ERR
  | EERR
  | SUCC
  | ERRTOT
  | TOTAL
  | OFF
  | LEN
  | FB
deriving DecidableEq, Repr

/-- What a register holds. -/
inductive RegVal where
  | st (v : St)
  | byte (v : Byte)
  | nat (v : Nat)
  | len (held : Bool) (v : Nat)
  | mem (v : Memory)
deriving DecidableEq, Repr

/-- The value of a register. -/
def regOf (s : State) (r : Reg) : RegVal :=
  match r with
  | .ST => .st s.st
  | .SEQ => .byte s.seq
  | .ERR => .nat s.err
  | .EERR => .nat s.eerr
  | .SUCC => .nat s.succ
  | .ERRTOT => .nat s.errtot
  | .TOTAL => .nat s.total
  | .OFF => .nat s.off
  | .LEN => .len s.lenHeld s.len
  | .FB => .mem s.fb

/-- The registers a step writes: the write matrix, row by row (R35). -/
def rowWrites (r : DispatchRow) : List Reg :=
  match r with
  | .awaitStart | .done | .failed => []
  | .sendBlock => [.ST, .ERR, .TOTAL, .OFF, .FB]
  | .awaitAckAck => [.ST, .SEQ, .SUCC]
  | .awaitAckNak | .awaitAckTimeout => [.ST, .ERR, .ERRTOT]
  | .awaitAckNoise _ => []
  | .retryFail => [.ST]
  | .retryResend => [.ST, .TOTAL]
  | .sendEot => [.ST]
  | .awaitEotAckAck => [.ST]
  | .awaitEotAckNak | .awaitEotAckTimeout => [.ST, .EERR]
  | .awaitEotAckNoise _ => []

/-- Outside these registers nothing of R20 differs between two states. -/
def OnlyWrites (written : List Reg) (s t : State) : Prop := ∀ r, r ∉ written → regOf t r = regOf s r

/-- Every byte of `FB` and of the image reads as before. -/
def MemoryUnchanged (s t : State) : Prop :=
  ∀ a, memGet t.fb a = memGet s.fb a ∧ memGet t.img a = memGet s.img a

/-- The inputs that belong to the host and are no register: the configuration and every byte of the image. -/
def HostInputsUnchanged (s t : State) : Prop := t.cfg = s.cfg ∧ ∀ a, memGet t.img a = memGet s.img a

/-- Nothing is written to TX, nothing is read from RX and no progress event is emitted. -/
def PortsQuiet (s t : State) : Prop :=
  txStream t = txStream s ∧ t.txPend = s.txPend ∧ t.txAns = s.txAns ∧ t.rx = s.rx ∧
    progressStream t = progressStream s

/-! ### The transition table (R200) -/

/-- A data frame or `EOT` goes out: the next `TxWrite` answers `ok`. -/
def writeOk (s : State) : Bool := txAnswer s == .ok

/-- The next state by the table of R200, from `ST`, the command, and the answers of `RxRead` and `TxWrite`. A START
outside `AWAIT_START` writes nothing, `ST` included (R131); it takes a step of its own (log 1). -/
def nextSt (s : State) : St :=
  if (command s).word.getLsbD 1 then .awaitStart
  else if (command s).word = 1#2 then
    (if s.st = .awaitStart then (if (command s).len = 0 then .sendEot else .sendBlock) else s.st)
  else
    match s.st with
    | .awaitStart => .awaitStart
    | .done => .done
    | .failed => .failed
    | .sendBlock => if writeOk s then .awaitAck else .failed
    | .awaitAck =>
      match rxAnswer s with
      | .byte b =>
        if b = ACK then (if s.off = s.len then .sendEot else .sendBlock)
        else if b = NAK then .retry
        else .awaitAck
      | .timeout => .retry
    | .retry => if s.err > s.cfg.maxRetry then .failed else if writeOk s then .awaitAck else .failed
    | .sendEot => if writeOk s then .awaitEotAck else .failed
    | .awaitEotAck =>
      match rxAnswer s with
      | .byte b =>
        if b = ACK then .done
        else if b = NAK then (if s.eerr + 1 > s.cfg.eotMaxRetry then .failed else .sendEot)
        else .awaitEotAck
      | .timeout => if s.eerr + 1 > s.cfg.eotMaxRetry then .failed else .sendEot

/-! ### The invariants of R36 -/

/-- The chunk the block in flight carries: `MemRead(128 * SUCC, OFF - 128 * SUCC)` (R36 item 4). -/
def chunkInFlight (s : State) : Option (List Byte) :=
  memRead s.img (BLOCK * s.succ) (s.off - BLOCK * s.succ)

/-- The invariants of R36 (items 1 to 7), with what they rest on: the registers before START (R130), the wait timer
(R207), the output buffer (R57) and the canonical form of the two memories. -/
structure SessionInv (s : State) : Prop where
  /-- Item 1: `SEQ = (1 + SUCC) mod 256`. -/
  seqIsSuccPlusOne : s.seq.toNat = (1 + s.succ) % 256
  /-- Item 2: `TOTAL = SUCC + ERRTOT + (1 if ST = AWAIT_ACK else 0)`. -/
  totalCounts : s.total = s.succ + s.errtot + (if s.st = .awaitAck then 1 else 0)
  /-- R130: in `AWAIT_START` the registers hold their initial values. -/
  idleIsFresh : s.st = .awaitStart →
    s.err = 0 ∧ s.eerr = 0 ∧ s.succ = 0 ∧ s.errtot = 0 ∧ s.off = 0 ∧ s.lenHeld = false ∧ s.fb = []
  /-- `LEN` holds a value once a session has begun (R29). -/
  lenLatched : s.st ≠ .awaitStart → s.lenHeld = true
  /-- Item 3: `ST = SEND_BLOCK` implies `OFF = 128 * SUCC` and `OFF < LEN`. -/
  blockAhead : s.st = .sendBlock → s.off = BLOCK * s.succ ∧ s.off < s.len
  /-- Item 4, the offset: the block in flight is block `SUCC + 1` of the image. -/
  blockInFlight : s.st = .awaitAck ∨ s.st = .retry →
    BLOCK * s.succ < s.len ∧ s.off = min s.len (BLOCK * (s.succ + 1))
  /-- Item 4, the frame: `FB = ENCODE(SEQ, MemRead(128 * SUCC, OFF - 128 * SUCC))`. -/
  frameInFlight : s.st = .awaitAck ∨ s.st = .retry →
    (chunkInFlight s).isSome ∧ frameInBuffer s = (chunkInFlight s).map (encodeFrame s.seq)
  /-- Item 5: `ST in {SEND_EOT, AWAIT_EOT_ACK, DONE}` implies `OFF = LEN` and `SUCC = NB`. -/
  allAcknowledged : s.st = .sendEot ∨ s.st = .awaitEotAck ∨ s.st = .done → s.off = s.len ∧ s.succ = nBlocks s.len
  /-- Item 6: `ST = AWAIT_ACK` implies `ERR <= Cfg.MAX_RETRY`. -/
  errInWindow : s.st = .awaitAck → s.err ≤ s.cfg.maxRetry
  /-- Item 6: `ST = RETRY` implies `1 <= ERR <= Cfg.MAX_RETRY + 1`. -/
  errInRetry : s.st = .retry → 1 ≤ s.err ∧ s.err ≤ s.cfg.maxRetry + 1
  /-- Item 7: `ST in {SEND_EOT, AWAIT_EOT_ACK}` implies `EERR <= Cfg.EOT_MAX_RETRY`. -/
  eotErrBounded : s.st = .sendEot ∨ s.st = .awaitEotAck → s.eerr ≤ s.cfg.eotMaxRetry
  /-- What item 7 rests on: in the data phase no `EOT` has failed. -/
  noEotErrorYet : s.st = .sendBlock ∨ s.st = .awaitAck ∨ s.st = .retry → s.eerr = 0
  /-- R207: the timer is armed exactly in the two wait windows, each with its own duration. -/
  timerFollowsSt : s.timer = timerFor s.cfg s.st
  /-- R57: in a wait window everything written has left the output buffer. -/
  flushedBeforeRead : windowOpen s → s.txPend = []
  /-- The image and the frame buffer are in canonical form. -/
  memoriesCanonical : Memory.wf s.img ∧ Memory.wf s.fb

/-- The image holds every byte the latched length promises: the host's duty (R51, R224, U7). -/
def imageCovers (s : State) : Prop := ∀ a, a < s.len → (memGet s.img a).isSome

/-! ### The counts behind R209 -/

/-- The registers count what the session's record shows (R27, R166), and the failed attempts stay within the limits
that bound the number of transmissions (R209). -/
structure CountsInv (s : State) : Prop where
  session : SessionInv s
  /-- R27: `TOTAL` is the number of data frames the session has written to TX. -/
  framesAreTotal : framesSent s = s.total
  /-- R166: one progress event for each resolved attempt of a data block. -/
  progressAreResolved : progressCount s = s.succ + s.errtot
  /-- The `EOT` bytes sent are the failed ones and the one in flight or acknowledged. -/
  eotsAreAttempts : eotsSent s = s.eerr + (if s.st = .awaitEotAck ∨ s.st = .done then 1 else 0)
  /-- No block acknowledged so far failed more than `MAX_RETRY` times, the present one `ERR` times. -/
  errtotBounded : s.errtot ≤ s.cfg.maxRetry * s.succ +
    (if s.st = .awaitAck ∨ s.st = .retry ∨ s.st = .failed then s.err else 0)
  errBounded : s.err ≤ s.cfg.maxRetry + 1
  eerrBounded : s.eerr + (if s.st = .failed then 0 else 1) ≤ s.cfg.eotMaxRetry + 1
  /-- A session has acknowledged no more blocks than the image has, and one fewer while a block still fails. -/
  succBounded : s.succ ≤ nBlocks s.len ∧
    (s.st = .failed → s.succ < nBlocks s.len ∨ s.errtot ≤ s.cfg.maxRetry * s.succ)

/-- Everything the block has ever handed to `TxWrite`, whatever the answer, is a valid data frame or the `EOT` byte
(R56: "exactly two shapes of write"; R80). -/
def OnlyFramesAndEots (s : State) : Prop :=
  ∀ X, PortOp.txOk X ∈ s.trace ∨ (∃ reached, PortOp.txFail X reached ∈ s.trace) → X = [EOT] ∨ verifyFrame X = true

/-! ### How far a session is from its end (R209) -/

/-- A bound on the steps left until `DONE` or `FAILED` when every answer of `RxRead` decides its window: two steps an
attempt, `MAX_RETRY + 1` attempts a block, `EOT_MAX_RETRY + 1` attempts of the `EOT`. -/
def stepsLeft (s : State) : Nat :=
  let blocks := nBlocks s.len
  let perBlock := 2 * (s.cfg.maxRetry + 1) + 2
  let eotPhase := 2 * (s.cfg.eotMaxRetry + 1)
  match s.st with
  | .awaitStart | .done | .failed => 0
  | .sendBlock => (blocks - s.succ) * perBlock + eotPhase
  | .awaitAck => (blocks - s.succ - 1) * perBlock + 2 * (s.cfg.maxRetry + 1 - s.err) + 1 + eotPhase
  | .retry => (blocks - s.succ - 1) * perBlock + 2 * (s.cfg.maxRetry + 1 - s.err) + 2 + eotPhase
  | .sendEot => 2 * (s.cfg.eotMaxRetry + 1 - s.eerr)
  | .awaitEotAck => 2 * (s.cfg.eotMaxRetry + 1 - s.eerr) - 1

/-- An answer of `RxRead` that closes its window: not a noise byte (R150). -/
def decides (a : RxAnswer) : Bool :=
  match a with
  | .byte b => !isNoise b
  | .timeout => true

end Sys2Proof.Safety
end

