-- ==== Sys2Proof/Certificates/Slice0/Obligations.lean ====
section
/-! DEFINITION. The statements for the provers, from the numbered rules of the spec. -/

open Sys2Proof Sys2Proof.Machine Sys2Proof.Safety

/-! ### Encoding -/

/-- R21: the eight encodings of `ST`, each legal. -/
def Obligations.StateCodesAreTheTableOfR21 : Prop :=
  St.awaitStart.code = 0#3 ∧ St.sendBlock.code = 1#3 ∧ St.awaitAck.code = 2#3 ∧ St.retry.code = 3#3 ∧
    St.done.code = 4#3 ∧ St.failed.code = 5#3 ∧ St.sendEot.code = 6#3 ∧ St.awaitEotAck.code = 7#3 ∧
    (∀ st : St, St.ofCode st.code = st) ∧ ∀ c : BitVec 3, (St.ofCode c).code = c

/-- R85, R86: the decode of a response byte is total and by value alone. -/
def Obligations.ResponseBytesDecodeByValue : Prop :=
  decodeResponse 0x06#8 = .ack ∧ decodeResponse 0x15#8 = .nak ∧
    ∀ b : Byte, b ≠ 0x06#8 → b ≠ 0x15#8 → decodeResponse b = .noise b

/-- R90: the fields of the dispatch word, in a waiting state from the answer of `RxRead`, elsewhere zeros. -/
def Obligations.DispatchWordIsStRxvRxb : Prop :=
  ∀ s : State,
    (dispatchWord s).extractLsb' 9 3 = s.st.code ∧
    (windowOpen s = true → ∀ b, rxAnswer s = .byte b →
      (dispatchWord s).getLsbD 8 = true ∧ (dispatchWord s).extractLsb' 0 8 = b) ∧
    (windowOpen s = true → rxAnswer s = .timeout →
      (dispatchWord s).getLsbD 8 = false ∧ (dispatchWord s).extractLsb' 0 8 = 0#8) ∧
    (windowOpen s = false → (dispatchWord s).getLsbD 8 = false ∧ (dispatchWord s).extractLsb' 0 8 = 0#8)

/-- R91: the decoder by fields selects, on every one of the 4096 words, the first row of the table whose
`D and mask = match` holds. -/
def Obligations.DecoderAgreesWithTheDispatchTable : Prop :=
  ∀ (k : Cond) (d : BitVec 12), tableDispatch k d = some (decodeDispatch k d)

/-- Words written out from the tables of R81, R82, R85, R91 and R92 decode to the rows they stand for. -/
def Obligations.WrittenOutWordsDecode : Prop :=
  decodeTableWord 8 0b10 = some .reset ∧ decodeTableWord 8 0b11 = some .reset ∧
    decodeTableWord 8 0b01 = some .start ∧ decodeTableWord 8 0b00 = some .nocmd ∧
    decodeTableWord 16 0x506 = some .awaitAckAck ∧ decodeTableWord 16 0x515 = some .awaitAckNak ∧
    decodeTableWord 16 0x400 = some .awaitAckTimeout ∧ decodeTableWord 16 0x543 = some (.awaitAckNoise 0x43#8) ∧
    decodeTableWord 16 0xE00 = some .awaitEotAckTimeout ∧ decodeTableWord 16 0xF18 = some (.awaitEotAckNoise 0x18#8) ∧
    decodeTableWord 16 0x600 = some .retryResend ∧ decodeTableWord 16 0xC00 = some .sendEot ∧
    decodeTableWord 16 0x1000 = none ∧ decodeTableWord 8 0x04 = some .eot ∧ decodeTableWord 8 0x06 = some .ack ∧
    decodeTableWord 8 0x43 = some (.noise 0x43#8)

/-- Decode and encode agree, for every well-formed instruction that has an encoding (every row but the pure
functions, which "no bits select", R94), with every operand; whatever bytes follow are left (R83 for TX). -/
def Obligations.DecodeOfEncodeIsTheInstruction : Prop :=
  ∀ (i : Instr) (rest : List Byte), i.wellFormed = true → i.format ≠ .func →
    decode i.cond i.format (encode i ++ rest) = .ok (i, rest)

/-! ### Selection and the step -/

/-- R92, R91: a step executes the instruction the command port selects, RESET before START before the step `D`
selects. That a command takes a step of its own, and that its sample is then spent, is the model's choice (log 1). -/
def Obligations.StepRunsTheSelectedInstruction : Prop :=
  ∀ s : State,
    ((command s).word.getLsbD 1 = true → step s = exec .reset s) ∧
    ((command s).word = 0b01#2 → s.st = .awaitStart → step s = exec .start s) ∧
    ((command s).word = 0b01#2 → s.st ≠ .awaitStart → step s = exec .startRefused s) ∧
    ((command s).word = 0b00#2 → step s = exec .nocmd s ∧
      exec .nocmd s = exec (decodeDispatch (condOf s) (dispatchWord s)).toInstr (popCommand s))

/-- The model's fetch (log 5, log 11): a table word that decodes, placed as the next instruction, is what the next step
executes. -/
def Obligations.PlacedWordIsExecutedByTheNextStep : Prop :=
  ∀ (s : State) (nbits w : Nat) (i : Instr), decodeTableWord nbits w = some i →
    step (s.withFetchWord nbits w) = exec i (s.withFetchWord nbits w)

/-- The selection never picks an instruction the state does not select (R91: "no value is illegal"; R200). -/
def Obligations.StepSelectsOnlyStepsTheStateTakes : Prop :=
  ∀ s : State, step s ≠ .refused .stepNotSelected

/-! ### Commands -/

/-- R34: what reset leaves, and the status outputs; `LEN` holds no value in that `lenHeld` is false. -/
def Obligations.ResetStateHoldsTheValuesOfR34 : Prop :=
  State.reset.st = .awaitStart ∧ State.reset.seq = 1#8 ∧ State.reset.err = 0 ∧ State.reset.eerr = 0 ∧
    State.reset.succ = 0 ∧ State.reset.errtot = 0 ∧ State.reset.total = 0 ∧ State.reset.off = 0 ∧
    State.reset.lenHeld = false ∧ (∀ a, memGet State.reset.fb a = none) ∧ State.reset.timer = none ∧
    busy State.reset = false ∧ doneOut State.reset = false ∧ resultOut State.reset = false

/-- R220: RESET, accepted in every state with `C = 1x`; `LEN` holds no value in that `lenHeld` is false. -/
def Obligations.ResetCommandRecreatesTheSession : Prop :=
  ∀ s : State, (command s).word.getLsbD 1 = true →
    ∃ t, exec .reset s = .next t ∧
      t.st = .awaitStart ∧ t.seq = 1#8 ∧ t.err = 0 ∧ t.eerr = 0 ∧ t.succ = 0 ∧ t.errtot = 0 ∧ t.total = 0 ∧
      t.off = 0 ∧ t.lenHeld = false ∧ (∀ a, memGet t.fb a = none) ∧ t.timer = none ∧
      busy t = false ∧ doneOut t = false ∧ resultOut t = false ∧
      PortsQuiet s t ∧ eventStream t = eventStream s ∧ HostInputsUnchanged s t

/-- R130: START accepted. -/
def Obligations.StartLatchesTheLength : Prop :=
  ∀ s : State, (command s).word = 0b01#2 → s.st = .awaitStart →
    ∃ t, exec .start s = .next t ∧
      t.len = (command s).len ∧ t.lenHeld = true ∧ t.st = (if (command s).len = 0 then .sendEot else .sendBlock) ∧
      OnlyWrites [.ST, .LEN] s t ∧ busy t = true ∧ t.timer = none ∧
      PortsQuiet s t ∧ eventStream t = eventStream s ∧ HostInputsUnchanged s t

/-- R131: START refused: nothing is read, nothing is written, the refusal is silent. -/
def Obligations.StartElsewhereChangesNothing : Prop :=
  ∀ s : State, (command s).word = 0b01#2 → s.st ≠ .awaitStart →
    ∃ t, exec .startRefused s = .next t ∧
      OnlyWrites [] s t ∧ t.timer = s.timer ∧ PortsQuiet s t ∧ eventStream t = eventStream s ∧
      HostInputsUnchanged s t

/-- R92, R91: with no command the block takes the step `D` selects, and in a state of a run (R36), with the image the
host owes (R51, U7), that step has its effect: NOCMD is the selected row executed with the sample spent (log 1), it answers a next state,
and `ST` goes where the table of R200 sends it. -/
def Obligations.NoCommandTakesTheSelectedStep : Prop :=
  ∀ s : State, SessionInv s → imageCovers s → (command s).word = 0b00#2 →
    exec .nocmd s = exec (selectedRow s).toInstr (popCommand s) ∧
    ∃ t, exec .nocmd s = .next t ∧ t.st = nextSt s ∧ OnlyWrites (rowWrites (selectedRow s)) s t ∧
      HostInputsUnchanged s t

/-! ### Transmit steps -/

/-- R132: SEND_BLOCK with both answers of `TxWrite` (R133 on `fail`), the chunk being what the image gives. -/
def Obligations.SendBlockBuildsAndTransmitsTheFrame : Prop :=
  ∀ (s : State) (c : List Byte), s.st = .sendBlock →
    imageRead s.len s.img s.off (min 128 (s.len - s.off)) = some c →
    ∃ t, exec .sendBlock s = .next t ∧
      t.off = s.off + min 128 (s.len - s.off) ∧ t.err = 0 ∧
      (∀ a, memGet t.fb a = if a < 132 then (encodeFrame s.seq c)[a]? else memGet s.fb a) ∧
      OnlyWrites [.ST, .ERR, .TOTAL, .OFF, .FB] s t ∧
      t.rx = s.rx ∧ progressStream t = progressStream s ∧ HostInputsUnchanged s t ∧
      (txAnswer s = .ok →
        t.st = .awaitAck ∧ t.timer = some s.cfg.tAck ∧ t.total = s.total + 1 ∧ busy t = true ∧
        txStream t = txStream s ++ encodeFrame s.seq c ∧ t.txPend = [] ∧ eventStream t = eventStream s) ∧
      (∀ reached drained, txAnswer s = .fail reached drained →
        t.st = .failed ∧ t.timer = none ∧ t.total = s.total ∧ busy t = false ∧
        txStream t = txStream s ++ (encodeFrame s.seq c).take reached ∧
        eventStream t = eventStream s ++ [.txFault])

/-- A `MemRead` the image does not hold is refused, not answered. R53 refuses `a + n > L`; that an image shorter than
the latched length (a precondition by U7) is refused when read is the model's choice (log 13). -/
def Obligations.ReadOutsideTheImageIsRefused : Prop :=
  ∀ s : State, s.st = .sendBlock →
    imageRead s.len s.img s.off (min 128 (s.len - s.off)) = none → exec .sendBlock s = .refused .imageReadOutside

/-- R52: `MemRead(a, n)` gives exactly the `n` bytes of the image from `a` on, in that order, where it is defined. -/
def Obligations.MemReadGivesTheImageBytesInOrder : Prop :=
  ∀ (L a n : Nat) (img : Memory), a + n ≤ L → (∀ i, i < L → (memGet img i).isSome) →
    ∃ bs, imageRead L img a n = some bs ∧ bs.length = n ∧ ∀ i, i < n → bs[i]? = memGet img (a + i)

/-- R134: RETRY.FAIL. -/
def Obligations.RetryPastTheLimitFails : Prop :=
  ∀ s : State, s.st = .retry → s.err > s.cfg.maxRetry →
    ∃ t, exec .retryFail s = .next t ∧
      t.st = .failed ∧ OnlyWrites [.ST] s t ∧ busy t = false ∧ doneOut t = true ∧ resultOut t = false ∧
      t.timer = none ∧ PortsQuiet s t ∧ eventStream t = eventStream s ++ [.retryExhausted] ∧
      HostInputsUnchanged s t

/-- R135: RETRY.RESEND, with both answers of `TxWrite`: `FB` as it stands goes out again. -/
def Obligations.RetryWithinTheLimitResendsTheBuffer : Prop :=
  ∀ (s : State) (F : List Byte), s.st = .retry → s.err ≤ s.cfg.maxRetry →
    F.length = 132 → (∀ a, a < 132 → memGet s.fb a = F[a]?) →
    ∃ t, exec .retryResend s = .next t ∧
      OnlyWrites [.ST, .TOTAL] s t ∧ MemoryUnchanged s t ∧
      t.rx = s.rx ∧ progressStream t = progressStream s ∧ HostInputsUnchanged s t ∧
      (txAnswer s = .ok →
        t.st = .awaitAck ∧ t.timer = some s.cfg.tAck ∧ t.total = s.total + 1 ∧
        txStream t = txStream s ++ F ∧ t.txPend = [] ∧ eventStream t = eventStream s) ∧
      (∀ reached drained, txAnswer s = .fail reached drained →
        t.st = .failed ∧ t.timer = none ∧ t.total = s.total ∧
        txStream t = txStream s ++ F.take reached ∧ eventStream t = eventStream s ++ [.txFault])

/-- R136: SEND_EOT, with both answers of `TxWrite`. -/
def Obligations.SendEotTransmitsOneByte : Prop :=
  ∀ s : State, s.st = .sendEot →
    ∃ t, exec .sendEot s = .next t ∧
      OnlyWrites [.ST] s t ∧ MemoryUnchanged s t ∧
      t.rx = s.rx ∧ progressStream t = progressStream s ∧ HostInputsUnchanged s t ∧
      (txAnswer s = .ok →
        t.st = .awaitEotAck ∧ t.timer = some s.cfg.tEot ∧ txStream t = txStream s ++ [0x04#8] ∧ t.txPend = [] ∧
        eventStream t = eventStream s) ∧
      (∀ reached drained, txAnswer s = .fail reached drained →
        t.st = .failed ∧ t.timer = none ∧
        txStream t = txStream s ++ [0x04#8].take reached ∧ eventStream t = eventStream s ++ [.txFault])

/-- R64, R133, R198: the port operations and the events of every step that has any, with both answers of `TxWrite`,
in the order its pseudocode lists them (the record itself is the model's, log 7). -/
def Obligations.PortOperationsHappenInPseudocodeOrder : Prop :=
  (∀ (s t : State) (c : List Byte),
    imageRead s.len s.img s.off (min 128 (s.len - s.off)) = some c → exec .sendBlock s = .next t →
    (txAnswer s = .ok → t.trace = s.trace ++ [.memRead s.off (min 128 (s.len - s.off)),
      .memWrite 0 (encodeFrame s.seq c), .txOk (encodeFrame s.seq c), .txFlush]) ∧
    (∀ reached drained, txAnswer s = .fail reached drained →
      t.trace = s.trace ++ [.memRead s.off (min 128 (s.len - s.off)), .memWrite 0 (encodeFrame s.seq c),
        .txFail (encodeFrame s.seq c) reached, .raised .txFault])) ∧
  (∀ (s t : State) (F : List Byte), memRead s.fb 0 132 = some F → exec .retryResend s = .next t →
    (txAnswer s = .ok → t.trace = s.trace ++ [.txOk F, .txFlush]) ∧
    (∀ reached drained, txAnswer s = .fail reached drained →
      t.trace = s.trace ++ [.txFail F reached, .raised .txFault])) ∧
  (∀ s t : State, exec .sendEot s = .next t →
    (txAnswer s = .ok → t.trace = s.trace ++ [.txOk [0x04#8], .txFlush]) ∧
    (∀ reached drained, txAnswer s = .fail reached drained →
      t.trace = s.trace ++ [.txFail [0x04#8] reached, .raised .txFault])) ∧
  (∀ s t : State, exec .retryFail s = .next t → t.trace = s.trace ++ [.raised .retryExhausted]) ∧
  (∀ s t : State, exec .awaitAckAck s = .next t →
    t.trace = s.trace ++ [.rxRead (.byte 0x06#8), .progress s.total (s.succ + 1) s.errtot]) ∧
  (∀ s t : State, exec .awaitAckNak s = .next t →
    t.trace = s.trace ++ [.rxRead (.byte 0x15#8), .raised .nak, .progress s.total s.succ (s.errtot + 1)]) ∧
  (∀ s t : State, exec .awaitAckTimeout s = .next t →
    t.trace = s.trace ++ [.rxRead .timeout, .raised .timeout, .progress s.total s.succ (s.errtot + 1)]) ∧
  (∀ (s t : State) (b : Byte),
    exec (.awaitAckNoise b) s = .next t ∨ exec (.awaitEotAckNoise b) s = .next t →
    t.trace = s.trace ++ [.rxRead (.byte b), .raised .noise]) ∧
  (∀ s t : State, exec .awaitEotAckAck s = .next t → t.trace = s.trace ++ [.rxRead (.byte 0x06#8)]) ∧
  (∀ s t : State, exec .awaitEotAckNak s = .next t →
    t.trace = s.trace ++ [.rxRead (.byte 0x15#8), .raised .nak] ++
      (if s.eerr + 1 > s.cfg.eotMaxRetry then [.raised .eotExhausted] else [])) ∧
  (∀ s t : State, exec .awaitEotAckTimeout s = .next t →
    t.trace = s.trace ++ [.rxRead .timeout, .raised .timeout] ++
      (if s.eerr + 1 > s.cfg.eotMaxRetry then [.raised .eotExhausted] else []))

/-! ### The acknowledger -/

/-- R151: AWAIT_ACK.ACK. -/
def Obligations.AckAdvancesTheSession : Prop :=
  ∀ s : State, s.st = .awaitAck → rxAnswer s = .byte 0x06#8 →
    ∃ t, exec .awaitAckAck s = .next t ∧
      t.seq.toNat = (s.seq.toNat + 1) % 256 ∧ t.succ = s.succ + 1 ∧
      t.st = (if s.off = s.len then .sendEot else .sendBlock) ∧
      progressStream t = progressStream s ++ [(s.total, s.succ + 1, s.errtot)] ∧
      OnlyWrites [.ST, .SEQ, .SUCC] s t ∧ MemoryUnchanged s t ∧ busy t = true ∧ t.timer = none ∧
      t.rx = s.rx.tail ∧ txStream t = txStream s ∧ t.txPend = s.txPend ∧ eventStream t = eventStream s ∧
      HostInputsUnchanged s t

/-- R152, R153: AWAIT_ACK.NAK and AWAIT_ACK.TIMEOUT. -/
def Obligations.NakAndTimeoutCountAFailedAttempt : Prop :=
  ∀ (s : State) (i : Instr) (a : RxAnswer) (e : ErrorEvent),
    (i, a, e) = (.awaitAckNak, .byte 0x15#8, .nak) ∨ (i, a, e) = (.awaitAckTimeout, .timeout, .timeout) →
    s.st = .awaitAck → rxAnswer s = a →
    ∃ t, exec i s = .next t ∧
      t.err = s.err + 1 ∧ t.errtot = s.errtot + 1 ∧ t.st = .retry ∧
      progressStream t = progressStream s ++ [(s.total, s.succ, s.errtot + 1)] ∧
      eventStream t = eventStream s ++ [e] ∧
      OnlyWrites [.ST, .ERR, .ERRTOT] s t ∧ MemoryUnchanged s t ∧ busy t = true ∧ t.timer = none ∧
      t.rx = s.rx.tail ∧ txStream t = txStream s ∧ t.txPend = s.txPend ∧ HostInputsUnchanged s t

/-- R154, R160: AWAIT_ACK.NOISE and AWAIT_EOT_ACK.NOISE: the byte is consumed, nothing else changes. -/
def Obligations.NoiseIsConsumedAndForgotten : Prop :=
  ∀ (s : State) (i : Instr) (b : Byte), b ≠ 0x06#8 → b ≠ 0x15#8 → rxAnswer s = .byte b →
    (i = .awaitAckNoise b ∧ s.st = .awaitAck) ∨ (i = .awaitEotAckNoise b ∧ s.st = .awaitEotAck) →
    ∃ t, exec i s = .next t ∧
      OnlyWrites [] s t ∧ MemoryUnchanged s t ∧ t.timer = s.timer ∧ t.rx = s.rx.tail ∧
      txStream t = txStream s ∧ t.txPend = s.txPend ∧ progressStream t = progressStream s ∧
      eventStream t = eventStream s ++ [.noise] ∧ HostInputsUnchanged s t

/-- R157: AWAIT_EOT_ACK.ACK. -/
def Obligations.FinalAckEndsInDone : Prop :=
  ∀ s : State, s.st = .awaitEotAck → rxAnswer s = .byte 0x06#8 →
    ∃ t, exec .awaitEotAckAck s = .next t ∧
      t.st = .done ∧ OnlyWrites [.ST] s t ∧ MemoryUnchanged s t ∧ busy t = false ∧ doneOut t = true ∧
      resultOut t = true ∧ t.timer = none ∧ t.rx = s.rx.tail ∧ txStream t = txStream s ∧ t.txPend = s.txPend ∧
      progressStream t = progressStream s ∧ eventStream t = eventStream s ∧ HostInputsUnchanged s t

/-- R158, R159: AWAIT_EOT_ACK.NAK and AWAIT_EOT_ACK.TIMEOUT, within the limit and past it. -/
def Obligations.FailedEotIsResentUntilTheLimit : Prop :=
  ∀ (s : State) (i : Instr) (a : RxAnswer) (e : ErrorEvent),
    (i, a, e) = (.awaitEotAckNak, .byte 0x15#8, .nak) ∨ (i, a, e) = (.awaitEotAckTimeout, .timeout, .timeout) →
    s.st = .awaitEotAck → rxAnswer s = a →
    ∃ t, exec i s = .next t ∧
      t.eerr = s.eerr + 1 ∧ OnlyWrites [.ST, .EERR] s t ∧ MemoryUnchanged s t ∧ t.timer = none ∧
      t.rx = s.rx.tail ∧ txStream t = txStream s ∧ t.txPend = s.txPend ∧ progressStream t = progressStream s ∧
      HostInputsUnchanged s t ∧
      (s.eerr + 1 ≤ s.cfg.eotMaxRetry →
        t.st = .sendEot ∧ busy t = true ∧ eventStream t = eventStream s ++ [e]) ∧
      (s.eerr + 1 > s.cfg.eotMaxRetry →
        t.st = .failed ∧ busy t = false ∧ doneOut t = true ∧ resultOut t = false ∧
        eventStream t = eventStream s ++ [e, .eotExhausted])

/-- R91, R162, R163: in `AWAIT_START`, `DONE` and `FAILED` the block takes no step. -/
def Obligations.IdleAndTerminalStatesTakeNoStep : Prop :=
  ∀ s : State, (s.st = .awaitStart → exec .awaitStart s = .next s) ∧
    (s.st = .done → exec .done s = .next s) ∧ (s.st = .failed → exec .failed s = .next s)

/-! ### The rows of the wire (their reading as instructions is the model's, log 10) -/

/-- R150, R85: while a window is open a response byte takes the arm of its class. -/
def Obligations.ResponseTakesTheArmOfTheOpenWindow : Prop :=
  ∀ s : State,
    (s.st = .awaitAck →
      (rxAnswer s = .byte 0x06#8 → ∃ t, exec .ack s = .next t ∧ exec .awaitAckAck s = .next t) ∧
      (rxAnswer s = .byte 0x15#8 → ∃ t, exec .nak s = .next t ∧ exec .awaitAckNak s = .next t) ∧
      (∀ b, b ≠ 0x06#8 → b ≠ 0x15#8 → rxAnswer s = .byte b →
        ∃ t, exec (.noise b) s = .next t ∧ exec (.awaitAckNoise b) s = .next t)) ∧
    (s.st = .awaitEotAck →
      (rxAnswer s = .byte 0x06#8 → ∃ t, exec .ack s = .next t ∧ exec .awaitEotAckAck s = .next t) ∧
      (rxAnswer s = .byte 0x15#8 → ∃ t, exec .nak s = .next t ∧ exec .awaitEotAckNak s = .next t) ∧
      (∀ b, b ≠ 0x06#8 → b ≠ 0x15#8 → rxAnswer s = .byte b →
        ∃ t, exec (.noise b) s = .next t ∧ exec (.awaitEotAckNoise b) s = .next t))

/-- R62, R90: outside a wait window no `RxRead` is issued and a response byte changes nothing. -/
def Obligations.ResponseOutsideAWindowStaysUnread : Prop :=
  ∀ s : State, windowOpen s = false →
    exec .ack s = .next s ∧ exec .nak s = .next s ∧
      ∀ b, b ≠ 0x06#8 → b ≠ 0x15#8 → exec (.noise b) s = .next s

/-- R80: the frame the block emits goes out in SEND_BLOCK, as the frame it builds, or in RETRY, as the frame in `FB`;
the row DATA is that step. -/
def Obligations.DataFrameIsEmittedBySendBlockOrRetry : Prop :=
  ∀ (s : State) (seq cseq chk : Byte) (payload : List Byte),
    (∀ c, s.st = .sendBlock → imageRead s.len s.img s.off (min 128 (s.len - s.off)) = some c →
      dataFrame seq cseq payload chk = encodeFrame s.seq c →
      ∃ t, exec (.data seq cseq payload chk) s = .next t ∧ exec .sendBlock s = .next t ∧
        (txAnswer s = .ok → txStream t = txStream s ++ dataFrame seq cseq payload chk)) ∧
    (s.st = .retry → s.err ≤ s.cfg.maxRetry → memRead s.fb 0 132 = some (dataFrame seq cseq payload chk) →
      ∃ t, exec (.data seq cseq payload chk) s = .next t ∧ exec .retryResend s = .next t ∧
        (txAnswer s = .ok → txStream t = txStream s ++ dataFrame seq cseq payload chk)) ∧
    (frameToEmit s ≠ some (dataFrame seq cseq payload chk) →
      exec (.data seq cseq payload chk) s = .refused .stepNotSelected) ∧
    (s.st ≠ .sendBlock → s.st ≠ .retry → frameToEmit s = none)

/-- R80, R82: the byte `EOT` goes out in SEND_EOT alone; the row EOT is that step. -/
def Obligations.EotByteIsEmittedBySendEot : Prop :=
  ∀ s : State,
    (s.st = .sendEot → ∃ t, exec .eot s = .next t ∧ exec .sendEot s = .next t ∧
      (txAnswer s = .ok → txStream t = txStream s ++ [0x04#8])) ∧
    (s.st ≠ .sendEot → exec .eot s = .refused .stepNotSelected)

/-! ### The pure functions (that their result stands on `fres` is the model's, log 7) -/

/-- R111, R112: SEQNEXT and CSEQ. -/
def Obligations.SeqnextAndCseqValues : Prop :=
  ∀ (s : State) (seq : Byte),
    (∃ t r, exec (.seqnext seq) s = .next t ∧ t.fres = some (.byte r) ∧ r.toNat = (seq.toNat + 1) % 256) ∧
    (∃ t r, exec (.cseq seq) s = .next t ∧ t.fres = some (.byte r) ∧
      r.toNat = 255 - seq.toNat ∧ r = ~~~seq ∧ r = seq ^^^ 0xFF#8)

/-- R113: PADBLK: the chunk bytes first, unchanged and in order, then 0x1A up to exactly 128 bytes. -/
def Obligations.PadblkFillsWith1A : Prop :=
  ∀ (s : State) (chunk : List Byte), chunk.length ≤ 128 →
    ∃ t p, exec (.padblk chunk) s = .next t ∧ t.fres = some (.bytes p) ∧ p.length = 128 ∧
      (∀ i, i < chunk.length → p[i]? = chunk[i]?) ∧
      (∀ i, chunk.length ≤ i → i < 128 → p[i]? = some 0x1A#8)

/-- R114: CHK: the sum of the 128 payload bytes mod 256. -/
def Obligations.ChkIsTheSumMod256 : Prop :=
  ∀ (s : State) (payload : List Byte), payload.length = 128 →
    ∃ t r, exec (.chk payload) s = .next t ∧ t.fres = some (.byte r) ∧
      r.toNat = (payload.map BitVec.toNat).sum % 256

/-- R115: CHUNKLEN and NBLOCKS, the latter as the least integer not below `L / 128`. -/
def Obligations.ChunklenAndNblocksValues : Prop :=
  (∀ (s : State) (L off : Nat), off ≤ L →
    ∃ t, exec (.chunklen L off) s = .next t ∧ t.fres = some (.nat (min 128 (L - off)))) ∧
  (∀ (s : State) (L : Nat),
    ∃ t n, exec (.nblocks L) s = .next t ∧ t.fres = some (.nat n) ∧ L ≤ 128 * n ∧ ∀ m, L ≤ 128 * m → n ≤ m)

/-- R116, R81, R84: ENCODE, byte by byte. -/
def Obligations.EncodeBuildsTheFrame : Prop :=
  ∀ (s : State) (seq : Byte) (chunk : List Byte), chunk.length ≤ 128 →
    ∃ t F, exec (.encode seq chunk) s = .next t ∧ t.fres = some (.bytes F) ∧ F.length = 132 ∧
      F[0]? = some 0x01#8 ∧ F[1]? = some seq ∧ F[2]? = some (255#8 - seq) ∧
      (∀ i, i < chunk.length → F[3 + i]? = chunk[i]?) ∧
      (∀ i, chunk.length ≤ i → i < 128 → F[3 + i]? = some 0x1A#8) ∧
      F[131]? = some (BitVec.ofNat 8 (((F.drop 3).take 128).map BitVec.toNat).sum)

/-- R181, R182: VERIFY, DECODE and VERIFYSEQ. -/
def Obligations.VerifyDecodeVerifyseqValues : Prop :=
  ∀ (s : State) (F : List Byte),
    (∃ t r, exec (.verify F) s = .next t ∧ t.fres = some (.bool r) ∧
      (r = true ↔ F.length = 132 ∧ F[0]? = some 0x01#8 ∧
        (byteAt F 1).toNat + (byteAt F 2).toNat = 255 ∧
        (byteAt F 131).toNat = (((F.drop 3).take 128).map BitVec.toNat).sum % 256)) ∧
    (verifyFrame F = true → ∃ t, exec (.decode F) s = .next t ∧
      t.fres = some (.seqPayload (byteAt F 1) ((F.drop 3).take 128))) ∧
    (∀ exp, ∃ t r, exec (.verifyseq F exp) s = .next t ∧ t.fres = some (.bool r) ∧
      (r = true ↔ verifyFrame F = true ∧ byteAt F 1 = exp))

/-- R110: no pure function reads or writes any register, memory or port, and none raises an event: nothing differs
after it, and its result (on the model's output `fres`, log 7) is the same from any two states. -/
def Obligations.PureFunctionsTouchNoState : Prop :=
  ∀ (i : Instr) (s t : State), i.format = .func → exec i s = .next t →
    OnlyWrites [] s t ∧ MemoryUnchanged s t ∧ t.timer = s.timer ∧ PortsQuiet s t ∧
      eventStream t = eventStream s ∧ t.draws = s.draws ∧ t.cmds = s.cmds ∧ HostInputsUnchanged s t ∧
      ∀ s' : State, ∃ t', exec i s' = .next t' ∧ t'.fres = t.fres

/-- R110: outside its argument types a pure function has no value; the model refuses it by name (log 7). -/
def Obligations.PureFunctionsAreRefusedOutsideTheirTypes : Prop :=
  ∀ s : State,
    (∀ chunk : List Byte, chunk.length > 128 →
      exec (.padblk chunk) s = .refused .operandOutsideDomain ∧
      ∀ seq, exec (.encode seq chunk) s = .refused .operandOutsideDomain) ∧
    (∀ payload : List Byte, payload.length ≠ 128 → exec (.chk payload) s = .refused .operandOutsideDomain) ∧
    (∀ L off, off > L → exec (.chunklen L off) s = .refused .operandOutsideDomain) ∧
    (∀ F, verifyFrame F = false → exec (.decode F) s = .refused .operandOutsideDomain)

/-- R183: the laws joining the encoder and the verifier. -/
def Obligations.EncoderAndVerifierAgree : Prop :=
  (∀ (seq : Byte) (c : List Byte), c.length ≤ 128 → verifyFrame (encodeFrame seq c) = true) ∧
  (∀ (seq : Byte) (c : List Byte), c.length ≤ 128 → decodeFrame (encodeFrame seq c) = (seq, padBlk c)) ∧
  (∀ (seq seq' : Byte) (c c' : List Byte), c.length ≤ 128 → c'.length ≤ 128 →
    encodeFrame seq c = encodeFrame seq' c' → seq = seq' ∧ padBlk c = padBlk c') ∧
  (∀ F, verifyFrame F = true → F = encodeFrame (byteAt F 1) (payloadOf F))

/-- R118 items 1, 2 and 4: the checksum is a sum, additive, and what the filler adds. -/
def Obligations.ChecksumIsASum : Prop :=
  (∀ p q : List Byte, p.Perm q → chkOf p = chkOf q) ∧
  (∀ a b : List Byte, (chkOf (a ++ b)).toNat = (byteSum a + byteSum b) % 256) ∧
  (∀ c : List Byte, c.length ≤ 128 → (chkOf (padBlk c)).toNat = (byteSum c + 26 * (128 - c.length)) % 256) ∧
  (∀ (a b : List Byte) (x y : Byte),
    ((chkOf (a ++ x :: b)).toNat + y.toNat) % 256 = ((chkOf (a ++ y :: b)).toNat + x.toNat) % 256)

/-! ### Rules of the whole machine -/

/-- R35: the write matrix: with no command, a step writes no register outside its row. -/
def Obligations.StepsWriteOnlyTheirRowOfTheMatrix : Prop :=
  ∀ s t : State, (command s).word = 0b00#2 → step s = .next t →
    OnlyWrites (rowWrites (selectedRow s)) s t

/-- R200: every step that answers a next state goes where the transition table sends it. The rows of R200 for a busy
block carry no condition on `C`; that a refused START takes a step of its own, which leaves `ST` as it is, is the
model's choice (log 1). -/
def Obligations.StFollowsTheTransitionTable : Prop :=
  ∀ s t : State, step s = .next t → t.st = nextSt s

/-- R200, R91: a step executed where the state selects another is refused by name (log 6), so that no pair outside the
table of R200 happens. -/
def Obligations.UnselectedStepsAreRefused : Prop :=
  ∀ (r : DispatchRow) (s : State), r ≠ selectedRow s → exec r.toInstr s = .refused .stepNotSelected

/-- R162, R163, R131: `DONE` and `FAILED` are left only by RESET, and nothing happens in them. -/
def Obligations.TerminalStatesAreAbsorbing : Prop :=
  ∀ s : State, s.st = .done ∨ s.st = .failed → (command s).word.getLsbD 1 = false →
    ∃ t, step s = .next t ∧ OnlyWrites [] s t ∧ PortsQuiet s t ∧ eventStream t = eventStream s

/-- R36 item 8: the four counts never decrease between resets. -/
def Obligations.CountsNeverDecreaseBetweenResets : Prop :=
  ∀ s t : State, (command s).word.getLsbD 1 = false → step s = .next t →
    s.succ ≤ t.succ ∧ s.errtot ≤ t.errtot ∧ s.total ≤ t.total ∧ s.off ≤ t.off

/-- R36 item 9, R64 item 2: TX is written only in `SEND_BLOCK`, `RETRY` and `SEND_EOT`, and a wait state or `FAILED`
follows; RX is read only in a wait window, one answer at a time, oldest first (R58, R62). -/
def Obligations.TheProtocolIsHalfDuplex : Prop :=
  ∀ s t : State, step s = .next t →
    (txStream t ≠ txStream s →
      (s.st = .sendBlock ∨ s.st = .retry ∨ s.st = .sendEot) ∧
      (t.st = .awaitAck ∨ t.st = .awaitEotAck ∨ t.st = .failed)) ∧
    (t.rx = s.rx ∨ (windowOpen s = true ∧ t.rx = s.rx.tail)) ∧
    (windowOpen s = true → (command s).word = 0b00#2 → t.rx = s.rx.tail)

/-- R51, R202: no instruction writes the image or the configuration. -/
def Obligations.NoInstructionWritesTheImageOrCfg : Prop :=
  ∀ (i : Instr) (s t : State), exec i s = .next t → HostInputsUnchanged s t

/-- R54, R30: no byte of `FB` changes but in the SEND_BLOCK step (which DATA and NOCMD may be) and at RESET. -/
def Obligations.FrameBufferIsWrittenBySendBlockOnly : Prop :=
  ∀ (i : Instr) (s t : State), exec i s = .next t → i ≠ .reset → s.st ≠ .sendBlock →
    ∀ a, memGet t.fb a = memGet s.fb a

/-- R167, R166: a step emits at most one progress event; it carries the new counts and raises exactly one of `s` and
`e` by one, and `t = s + e`. -/
def Obligations.ProgressEventsRaiseOneCount : Prop :=
  ∀ s t : State, SessionInv s → step s = .next t →
    progressStream t = progressStream s ∨
    (progressStream t = progressStream s ++ [(t.total, t.succ, t.errtot)] ∧
      t.total = t.succ + t.errtot ∧ t.total = s.total ∧
      ((t.succ = s.succ + 1 ∧ t.errtot = s.errtot) ∨ (t.succ = s.succ ∧ t.errtot = s.errtot + 1)))

/-- R36, R27, R166, R209, R80: the invariants hold after reset. -/
def Obligations.InvariantsHoldAtReset : Prop :=
  SessionInv State.reset ∧ CountsInv State.reset ∧ OnlyFramesAndEots State.reset

/-- R36 items 1 to 7: every step keeps the invariants, from every state that has them. -/
def Obligations.EveryStepKeepsTheSessionInvariant : Prop :=
  ∀ s t : State, SessionInv s → step s = .next t → SessionInv t

/-- R29, R30, R53: in a state with the invariants no step faults, and with the image the host owes (U7) every step
answers a next state. -/
def Obligations.NoRunStopsOnAnImageTheHostOwes : Prop :=
  ∀ s : State, SessionInv s → (∀ f, step s ≠ .fault f) ∧ (imageCovers s → ∃ t, step s = .next t)

/-- R54, R135, S4: a re-send is the frame that encodes the same chunk of the image under the same sequence number. -/
def Obligations.ResentFrameIsTheOriginalFrame : Prop :=
  ∀ s t : State, SessionInv s → s.st = .retry → s.err ≤ s.cfg.maxRetry → txAnswer s = .ok →
    exec .retryResend s = .next t →
    ∃ c, memRead s.img (128 * s.succ) (s.off - 128 * s.succ) = some c ∧
      txStream t = txStream s ++ encodeFrame s.seq c ∧ frameInBuffer t = some (encodeFrame s.seq c)

/-- R119: block `k` of a session carries `k mod 256` and its complement. -/
def Obligations.BlockKCarriesKMod256 : Prop :=
  ∀ s t : State, SessionInv s → s.st = .sendBlock → txAnswer s = .ok → exec .sendBlock s = .next t →
    ∃ F, txStream t = txStream s ++ F ∧ F.length = 132 ∧
      (byteAt F 1).toNat = (s.succ + 1) % 256 ∧ (byteAt F 2).toNat = 255 - (s.succ + 1) % 256 ∧
      ∀ i, i < 128 → s.off + i < t.off → F[3 + i]? = memGet s.img (128 * s.succ + i)

/-- R56, R80: with the invariants, everything a step hands to `TxWrite`, whether it answers `ok` or `fail`, is a valid
data frame or `EOT`. -/
def Obligations.EveryStepKeepsTxFramesAndEots : Prop :=
  ∀ s t : State, SessionInv s → OnlyFramesAndEots s → step s = .next t → OnlyFramesAndEots t

/-- R27, R166, R209: every step keeps the counts: `TOTAL` is the number of frames on TX in this session, the progress
events are the resolved attempts, and the failed attempts stay within the limits. -/
def Obligations.EveryStepKeepsTheCounts : Prop :=
  ∀ s t : State, CountsInv s → step s = .next t → CountsInv t

/-- R209: a session transmits at most `(MAX_RETRY + 1) * NBLOCKS(L)` data frames and at most `EOT_MAX_RETRY + 1`
`EOT` bytes. -/
def Obligations.TransmissionsAreBounded : Prop :=
  ∀ s : State, CountsInv s →
    framesSent s ≤ (s.cfg.maxRetry + 1) * nBlocks s.len ∧ eotsSent s ≤ s.cfg.eotMaxRetry + 1

/-- R209, R207: with no command and no noise, each step of a busy block brings the end of the session nearer. -/
def Obligations.EveryDecidingStepComesCloserToTheEnd : Prop :=
  ∀ s t : State, SessionInv s → busy s = true → (command s).word = 0b00#2 →
    (windowOpen s = true → decides (rxAnswer s) = true) → step s = .next t → stepsLeft t < stepsLeft s

/-- R209: with the image the host owes and a transport that gives enough answers that decide their windows among
finitely many noise bytes (the fairness of R207), a session ends in `DONE` or `FAILED`, within a bounded number of
steps. -/
def Obligations.EverySessionEnds : Prop :=
  ∀ s : State, SessionInv s → imageCovers s → s.st ≠ .awaitStart → s.cmds = [] →
    stepsLeft s ≤ s.rx.countP decides →
    ∃ k t, k ≤ stepsLeft s + s.rx.countP (fun a => !decides a) ∧
      Host.Core.run Sys2Proof.core k s = .next t ∧ doneOut t = true
end

