-- ==== Sys2Proof/Laws/Functions.lean ====
section
/-! SUPPORT. The small facts about the pure functions: lengths, and the fields of a frame. -/

namespace Sys2Proof.Machine

@[simp] theorem padBlk_length {chunk : List Byte} (h : chunk.length ≤ BLOCK) : (padBlk chunk).length = BLOCK := by
  simp [padBlk]; omega

@[simp] theorem dataFrame_length (seq cseq chk : Byte) (payload : List Byte) :
    (dataFrame seq cseq payload chk).length = payload.length + 4 := by
  simp [dataFrame]

@[simp] theorem encodeFrame_length {seq : Byte} {chunk : List Byte} (h : chunk.length ≤ BLOCK) :
    (encodeFrame seq chunk).length = FRAME_LEN := by
  simp [encodeFrame, padBlk_length h, BLOCK, FRAME_LEN]

theorem chunkLen_le (L off : Nat) : chunkLen L off ≤ BLOCK := Nat.min_le_left _ _

@[simp] theorem byteAt_dataFrame_zero (seq cseq chk : Byte) (payload : List Byte) :
    byteAt (dataFrame seq cseq payload chk) 0 = SOH := rfl

@[simp] theorem byteAt_dataFrame_one (seq cseq chk : Byte) (payload : List Byte) :
    byteAt (dataFrame seq cseq payload chk) 1 = seq := rfl

@[simp] theorem byteAt_dataFrame_two (seq cseq chk : Byte) (payload : List Byte) :
    byteAt (dataFrame seq cseq payload chk) 2 = cseq := rfl

theorem byteAt_dataFrame_last (seq cseq chk : Byte) {payload : List Byte} (h : payload.length = BLOCK) :
    byteAt (dataFrame seq cseq payload chk) 131 = chk := by
  simp [byteAt, dataFrame, h, BLOCK]

theorem payloadOf_dataFrame (seq cseq chk : Byte) {payload : List Byte} (h : payload.length = BLOCK) :
    payloadOf (dataFrame seq cseq payload chk) = payload := by
  simp [payloadOf, dataFrame, ← h]

@[simp] theorem seqNext_toNat (seq : Byte) : (seqNext seq).toNat = (seq.toNat + 1) % 256 := by
  simp [seqNext]

@[simp] theorem cseqOf_toNat (seq : Byte) : (cseqOf seq).toNat = 255 - seq.toNat := by
  have := seq.isLt
  simp [cseqOf]; omega

@[simp] theorem chkOf_toNat (payload : List Byte) : (chkOf payload).toNat = byteSum payload % 256 := by
  simp [chkOf]

end Sys2Proof.Machine
end

