-- ==== Sys2Proof/Laws/Memory.lean ====
section
/-! SUPPORT. The memory operations: they keep the canonical form, a read after a write to the same address gives the
byte written, and a write leaves every other address alone. -/

namespace Sys2Proof.Machine

theorem memGet_memSet (m : Memory) (a c : Nat) (b : Byte) :
    memGet (memSet m a b) c = if c = a then some b else memGet m c := by
  induction m with
  | nil => simp only [memSet, memGet]; split <;> simp_all [eq_comm]
  | cons p rest ih =>
    obtain ⟨a', b'⟩ := p
    simp only [memSet]
    split
    · simp only [memGet]; split <;> simp_all [eq_comm]
    · split
      · subst a'
        simp only [memGet]
        split <;> simp_all [eq_comm]
      · simp only [memGet, ih]
        grind

/-- Reading after `memWrite`: the bytes written where they stand, everything else as before. -/
theorem memGet_memWrite (bs : List Byte) (m : Memory) (a c : Nat) :
    memGet (memWrite m a bs) c = if a ≤ c ∧ c < a + bs.length then bs[c - a]? else memGet m c := by
  induction bs generalizing a with
  | nil => simp [memWrite]
  | cons b rest ih =>
    rw [memWrite, memGet_memSet, ih]
    by_cases h : c = a
    · subst c; simp
    · rw [if_neg h]
      by_cases h1 : a + 1 ≤ c ∧ c < a + 1 + rest.length
      · rw [if_pos h1, if_pos (by simp; omega)]
        rw [show c - a = (c - (a + 1)) + 1 by omega]
        simp
      · rw [if_neg h1, if_neg (by simp; omega)]

/-- A read of a range succeeds exactly when each of its bytes holds a value, and gives them in order. -/
theorem memRead_eq_some (m : Memory) (n a : Nat) (bs : List Byte) :
    memRead m a n = some bs ↔ bs.length = n ∧ ∀ i, i < n → memGet m (a + i) = bs[i]? := by
  induction n generalizing a bs with
  | zero => cases bs <;> simp [memRead]
  | succ n ih =>
    rw [memRead]
    constructor
    · intro h
      split at h
      · rename_i b bs' hb hbs
        cases h
        obtain ⟨hl, hg⟩ := (ih _ _).1 hbs
        refine ⟨by simp [hl], fun i hi => ?_⟩
        cases i with
        | zero => simpa using hb
        | succ i => simpa [Nat.add_assoc, Nat.add_comm 1 i] using hg i (by omega)
      · cases h
    · rintro ⟨hl, hg⟩
      cases bs with
      | nil => simp at hl
      | cons b bs' =>
        have h0 : memGet m a = some b := by simpa using hg 0 (by omega)
        have hr : memRead m (a + 1) n = some bs' :=
          (ih _ _).2 ⟨by simpa using hl, fun i hi => by
            simpa [Nat.add_assoc, Nat.add_comm 1 i] using hg (i + 1) (by omega)⟩
        simp [h0, hr]

theorem memRead_length {m : Memory} {a n : Nat} {bs : List Byte} (h : memRead m a n = some bs) : bs.length = n :=
  ((memRead_eq_some m n a bs).1 h).1

/-- A range all of whose bytes hold a value can be read. -/
theorem memRead_isSome {m : Memory} {n a : Nat} (h : ∀ c, a ≤ c → c < a + n → (memGet m c).isSome) :
    (memRead m a n).isSome := by
  induction n generalizing a with
  | zero => rfl
  | succ n ih =>
    have h0 := h a (Nat.le_refl _) (by omega)
    have hr := ih (a := a + 1) (fun c h1 h2 => h c (by omega) (by omega))
    rw [memRead]
    obtain ⟨b, hb⟩ := Option.isSome_iff_exists.1 h0
    obtain ⟨bs, hbs⟩ := Option.isSome_iff_exists.1 hr
    simp [hb, hbs]

/-- Reading back the bytes just written. -/
theorem memRead_memWrite_self (m : Memory) (a : Nat) (bs : List Byte) :
    memRead (memWrite m a bs) a bs.length = some bs := by
  refine (memRead_eq_some _ _ _ _).2 ⟨rfl, fun i hi => ?_⟩
  rw [memGet_memWrite, if_pos (by omega), Nat.add_sub_cancel_left]

theorem memSet_addresses (m : Memory) (a : Nat) (b : Byte) (p : Host.Cell) (h : p ∈ memSet m a b) :
    p.1 = a ∨ p ∈ m := by
  induction m with
  | nil => simp [memSet] at h; simp [h]
  | cons q rest ih =>
    obtain ⟨a', b'⟩ := q
    simp only [memSet] at h
    grind

/-- Writing one byte keeps the canonical form. -/
theorem memSet_wf (m : Memory) (a : Nat) (b : Byte) (h : Memory.wf m) : Memory.wf (memSet m a b) := by
  induction m with
  | nil => simp [memSet]
  | cons q rest ih =>
    obtain ⟨a', b'⟩ := q
    obtain ⟨hq, hr⟩ := List.pairwise_cons.1 h
    simp only [memSet]
    split
    · refine List.pairwise_cons.2 ⟨fun p hp => ?_, h⟩
      rcases List.mem_cons.1 hp with rfl | hp
      · assumption
      · have := hq p hp; simp only at this ⊢; omega
    · split
      · subst a'
        exact List.pairwise_cons.2 ⟨fun p hp => hq p hp, hr⟩
      · refine List.pairwise_cons.2 ⟨fun p hp => ?_, ih hr⟩
        rcases memSet_addresses rest a b p hp with h1 | h1
        · simp only [h1]; omega
        · exact hq p h1

/-- Writing a range keeps the canonical form. -/
theorem memWrite_wf (bs : List Byte) (m : Memory) (a : Nat) (h : Memory.wf m) : Memory.wf (memWrite m a bs) := by
  induction bs generalizing a with
  | nil => exact h
  | cons b rest ih => exact memSet_wf _ _ _ (ih (a + 1))

theorem reset_memories_wf : Memory.wf State.reset.img ∧ Memory.wf State.reset.fb := ⟨.nil, .nil⟩

/-- `MemRead` of the image gives `n` bytes, each the image's (R52). -/
theorem imageRead_eq_some {L : Nat} {img : Memory} {a n : Nat} {bs : List Byte} (h : imageRead L img a n = some bs) :
    a + n ≤ L ∧ memRead img a n = some bs := by
  unfold imageRead at h
  split at h
  · exact ⟨‹_›, h⟩
  · cases h

end Sys2Proof.Machine
end

