-- ==== Sys2Proof/Laws/State.lean ====
section
/-! SUPPORT. One lemma per field for each update of the state by a shared operation, so that no later proof unfolds a
record update. -/

namespace Sys2Proof.Machine

variable (s : State)

/-! ### `note` -/

@[simp] theorem note_st (ops : List PortOp) : (note ops s).st = s.st := rfl
@[simp] theorem note_seq (ops : List PortOp) : (note ops s).seq = s.seq := rfl
@[simp] theorem note_err (ops : List PortOp) : (note ops s).err = s.err := rfl
@[simp] theorem note_eerr (ops : List PortOp) : (note ops s).eerr = s.eerr := rfl
@[simp] theorem note_succ (ops : List PortOp) : (note ops s).succ = s.succ := rfl
@[simp] theorem note_errtot (ops : List PortOp) : (note ops s).errtot = s.errtot := rfl
@[simp] theorem note_total (ops : List PortOp) : (note ops s).total = s.total := rfl
@[simp] theorem note_off (ops : List PortOp) : (note ops s).off = s.off := rfl
@[simp] theorem note_len (ops : List PortOp) : (note ops s).len = s.len := rfl
@[simp] theorem note_lenHeld (ops : List PortOp) : (note ops s).lenHeld = s.lenHeld := rfl
@[simp] theorem note_fb (ops : List PortOp) : (note ops s).fb = s.fb := rfl
@[simp] theorem note_timer (ops : List PortOp) : (note ops s).timer = s.timer := rfl
@[simp] theorem note_txPend (ops : List PortOp) : (note ops s).txPend = s.txPend := rfl
@[simp] theorem note_cfg (ops : List PortOp) : (note ops s).cfg = s.cfg := rfl
@[simp] theorem note_img (ops : List PortOp) : (note ops s).img = s.img := rfl
@[simp] theorem note_cmds (ops : List PortOp) : (note ops s).cmds = s.cmds := rfl
@[simp] theorem note_rx (ops : List PortOp) : (note ops s).rx = s.rx := rfl
@[simp] theorem note_txAns (ops : List PortOp) : (note ops s).txAns = s.txAns := rfl
@[simp] theorem note_draws (ops : List PortOp) : (note ops s).draws = s.draws := rfl
@[simp] theorem note_trace (ops : List PortOp) : (note ops s).trace = s.trace ++ ops := rfl
@[simp] theorem note_fres (ops : List PortOp) : (note ops s).fres = s.fres := rfl

/-! ### `popCommand` -/

@[simp] theorem popCommand_st : (popCommand s).st = s.st := rfl
@[simp] theorem popCommand_seq : (popCommand s).seq = s.seq := rfl
@[simp] theorem popCommand_err : (popCommand s).err = s.err := rfl
@[simp] theorem popCommand_eerr : (popCommand s).eerr = s.eerr := rfl
@[simp] theorem popCommand_succ : (popCommand s).succ = s.succ := rfl
@[simp] theorem popCommand_errtot : (popCommand s).errtot = s.errtot := rfl
@[simp] theorem popCommand_total : (popCommand s).total = s.total := rfl
@[simp] theorem popCommand_off : (popCommand s).off = s.off := rfl
@[simp] theorem popCommand_len : (popCommand s).len = s.len := rfl
@[simp] theorem popCommand_lenHeld : (popCommand s).lenHeld = s.lenHeld := rfl
@[simp] theorem popCommand_fb : (popCommand s).fb = s.fb := rfl
@[simp] theorem popCommand_timer : (popCommand s).timer = s.timer := rfl
@[simp] theorem popCommand_txPend : (popCommand s).txPend = s.txPend := rfl
@[simp] theorem popCommand_cfg : (popCommand s).cfg = s.cfg := rfl
@[simp] theorem popCommand_img : (popCommand s).img = s.img := rfl
@[simp] theorem popCommand_cmds : (popCommand s).cmds = s.cmds.tail := rfl
@[simp] theorem popCommand_rx : (popCommand s).rx = s.rx := rfl
@[simp] theorem popCommand_txAns : (popCommand s).txAns = s.txAns := rfl
@[simp] theorem popCommand_draws : (popCommand s).draws = s.draws := rfl
@[simp] theorem popCommand_trace : (popCommand s).trace = s.trace := rfl
@[simp] theorem popCommand_fres : (popCommand s).fres = s.fres := rfl

/-! ### `rxRead` -/

@[simp] theorem rxRead_st : (rxRead s).st = s.st := rfl
@[simp] theorem rxRead_seq : (rxRead s).seq = s.seq := rfl
@[simp] theorem rxRead_err : (rxRead s).err = s.err := rfl
@[simp] theorem rxRead_eerr : (rxRead s).eerr = s.eerr := rfl
@[simp] theorem rxRead_succ : (rxRead s).succ = s.succ := rfl
@[simp] theorem rxRead_errtot : (rxRead s).errtot = s.errtot := rfl
@[simp] theorem rxRead_total : (rxRead s).total = s.total := rfl
@[simp] theorem rxRead_off : (rxRead s).off = s.off := rfl
@[simp] theorem rxRead_len : (rxRead s).len = s.len := rfl
@[simp] theorem rxRead_lenHeld : (rxRead s).lenHeld = s.lenHeld := rfl
@[simp] theorem rxRead_fb : (rxRead s).fb = s.fb := rfl
@[simp] theorem rxRead_timer : (rxRead s).timer = s.timer := rfl
@[simp] theorem rxRead_txPend : (rxRead s).txPend = s.txPend := rfl
@[simp] theorem rxRead_cfg : (rxRead s).cfg = s.cfg := rfl
@[simp] theorem rxRead_img : (rxRead s).img = s.img := rfl
@[simp] theorem rxRead_cmds : (rxRead s).cmds = s.cmds := rfl
@[simp] theorem rxRead_rx : (rxRead s).rx = s.rx.tail := rfl
@[simp] theorem rxRead_txAns : (rxRead s).txAns = s.txAns := rfl
@[simp] theorem rxRead_draws : (rxRead s).draws = if s.rx.isEmpty then s.draws + 1 else s.draws := rfl
@[simp] theorem rxRead_trace : (rxRead s).trace = s.trace ++ [.rxRead (rxAnswer s)] := rfl
@[simp] theorem rxRead_fres : (rxRead s).fres = s.fres := rfl

/-! ### `goto` -/

@[simp] theorem goto_st (st : St) : (goto st s).st = st := rfl
@[simp] theorem goto_seq (st : St) : (goto st s).seq = s.seq := rfl
@[simp] theorem goto_err (st : St) : (goto st s).err = s.err := rfl
@[simp] theorem goto_eerr (st : St) : (goto st s).eerr = s.eerr := rfl
@[simp] theorem goto_succ (st : St) : (goto st s).succ = s.succ := rfl
@[simp] theorem goto_errtot (st : St) : (goto st s).errtot = s.errtot := rfl
@[simp] theorem goto_total (st : St) : (goto st s).total = s.total := rfl
@[simp] theorem goto_off (st : St) : (goto st s).off = s.off := rfl
@[simp] theorem goto_len (st : St) : (goto st s).len = s.len := rfl
@[simp] theorem goto_lenHeld (st : St) : (goto st s).lenHeld = s.lenHeld := rfl
@[simp] theorem goto_fb (st : St) : (goto st s).fb = s.fb := rfl
@[simp] theorem goto_timer (st : St) : (goto st s).timer = timerFor s.cfg st := rfl
@[simp] theorem goto_txPend (st : St) : (goto st s).txPend = s.txPend := rfl
@[simp] theorem goto_cfg (st : St) : (goto st s).cfg = s.cfg := rfl
@[simp] theorem goto_img (st : St) : (goto st s).img = s.img := rfl
@[simp] theorem goto_cmds (st : St) : (goto st s).cmds = s.cmds := rfl
@[simp] theorem goto_rx (st : St) : (goto st s).rx = s.rx := rfl
@[simp] theorem goto_txAns (st : St) : (goto st s).txAns = s.txAns := rfl
@[simp] theorem goto_draws (st : St) : (goto st s).draws = s.draws := rfl
@[simp] theorem goto_trace (st : St) : (goto st s).trace = s.trace := rfl
@[simp] theorem goto_fres (st : St) : (goto st s).fres = s.fres := rfl

/-! ### `raiseEvent` -/

@[simp] theorem raiseEvent_st (e : ErrorEvent) : (raiseEvent e s).st = s.st := rfl
@[simp] theorem raiseEvent_seq (e : ErrorEvent) : (raiseEvent e s).seq = s.seq := rfl
@[simp] theorem raiseEvent_err (e : ErrorEvent) : (raiseEvent e s).err = s.err := rfl
@[simp] theorem raiseEvent_eerr (e : ErrorEvent) : (raiseEvent e s).eerr = s.eerr := rfl
@[simp] theorem raiseEvent_succ (e : ErrorEvent) : (raiseEvent e s).succ = s.succ := rfl
@[simp] theorem raiseEvent_errtot (e : ErrorEvent) : (raiseEvent e s).errtot = s.errtot := rfl
@[simp] theorem raiseEvent_total (e : ErrorEvent) : (raiseEvent e s).total = s.total := rfl
@[simp] theorem raiseEvent_off (e : ErrorEvent) : (raiseEvent e s).off = s.off := rfl
@[simp] theorem raiseEvent_len (e : ErrorEvent) : (raiseEvent e s).len = s.len := rfl
@[simp] theorem raiseEvent_lenHeld (e : ErrorEvent) : (raiseEvent e s).lenHeld = s.lenHeld := rfl
@[simp] theorem raiseEvent_fb (e : ErrorEvent) : (raiseEvent e s).fb = s.fb := rfl
@[simp] theorem raiseEvent_timer (e : ErrorEvent) : (raiseEvent e s).timer = s.timer := rfl
@[simp] theorem raiseEvent_txPend (e : ErrorEvent) : (raiseEvent e s).txPend = s.txPend := rfl
@[simp] theorem raiseEvent_cfg (e : ErrorEvent) : (raiseEvent e s).cfg = s.cfg := rfl
@[simp] theorem raiseEvent_img (e : ErrorEvent) : (raiseEvent e s).img = s.img := rfl
@[simp] theorem raiseEvent_cmds (e : ErrorEvent) : (raiseEvent e s).cmds = s.cmds := rfl
@[simp] theorem raiseEvent_rx (e : ErrorEvent) : (raiseEvent e s).rx = s.rx := rfl
@[simp] theorem raiseEvent_txAns (e : ErrorEvent) : (raiseEvent e s).txAns = s.txAns := rfl
@[simp] theorem raiseEvent_draws (e : ErrorEvent) : (raiseEvent e s).draws = s.draws := rfl
@[simp] theorem raiseEvent_trace (e : ErrorEvent) : (raiseEvent e s).trace = s.trace ++ [.raised e] := rfl
@[simp] theorem raiseEvent_fres (e : ErrorEvent) : (raiseEvent e s).fres = s.fres := rfl

/-! ### `raiseFatal` -/

@[simp] theorem raiseFatal_st (e : ErrorEvent) : (raiseFatal e s).st = .failed := rfl
@[simp] theorem raiseFatal_seq (e : ErrorEvent) : (raiseFatal e s).seq = s.seq := rfl
@[simp] theorem raiseFatal_err (e : ErrorEvent) : (raiseFatal e s).err = s.err := rfl
@[simp] theorem raiseFatal_eerr (e : ErrorEvent) : (raiseFatal e s).eerr = s.eerr := rfl
@[simp] theorem raiseFatal_succ (e : ErrorEvent) : (raiseFatal e s).succ = s.succ := rfl
@[simp] theorem raiseFatal_errtot (e : ErrorEvent) : (raiseFatal e s).errtot = s.errtot := rfl
@[simp] theorem raiseFatal_total (e : ErrorEvent) : (raiseFatal e s).total = s.total := rfl
@[simp] theorem raiseFatal_off (e : ErrorEvent) : (raiseFatal e s).off = s.off := rfl
@[simp] theorem raiseFatal_len (e : ErrorEvent) : (raiseFatal e s).len = s.len := rfl
@[simp] theorem raiseFatal_lenHeld (e : ErrorEvent) : (raiseFatal e s).lenHeld = s.lenHeld := rfl
@[simp] theorem raiseFatal_fb (e : ErrorEvent) : (raiseFatal e s).fb = s.fb := rfl
@[simp] theorem raiseFatal_timer (e : ErrorEvent) : (raiseFatal e s).timer = none := rfl
@[simp] theorem raiseFatal_txPend (e : ErrorEvent) : (raiseFatal e s).txPend = s.txPend := rfl
@[simp] theorem raiseFatal_cfg (e : ErrorEvent) : (raiseFatal e s).cfg = s.cfg := rfl
@[simp] theorem raiseFatal_img (e : ErrorEvent) : (raiseFatal e s).img = s.img := rfl
@[simp] theorem raiseFatal_cmds (e : ErrorEvent) : (raiseFatal e s).cmds = s.cmds := rfl
@[simp] theorem raiseFatal_rx (e : ErrorEvent) : (raiseFatal e s).rx = s.rx := rfl
@[simp] theorem raiseFatal_txAns (e : ErrorEvent) : (raiseFatal e s).txAns = s.txAns := rfl
@[simp] theorem raiseFatal_draws (e : ErrorEvent) : (raiseFatal e s).draws = s.draws := rfl
@[simp] theorem raiseFatal_trace (e : ErrorEvent) : (raiseFatal e s).trace = s.trace ++ [.raised e] := rfl
@[simp] theorem raiseFatal_fres (e : ErrorEvent) : (raiseFatal e s).fres = s.fres := rfl

/-! ### `popTxAnswer` -/

@[simp] theorem popTxAnswer_st : (popTxAnswer s).st = s.st := rfl
@[simp] theorem popTxAnswer_seq : (popTxAnswer s).seq = s.seq := rfl
@[simp] theorem popTxAnswer_err : (popTxAnswer s).err = s.err := rfl
@[simp] theorem popTxAnswer_eerr : (popTxAnswer s).eerr = s.eerr := rfl
@[simp] theorem popTxAnswer_succ : (popTxAnswer s).succ = s.succ := rfl
@[simp] theorem popTxAnswer_errtot : (popTxAnswer s).errtot = s.errtot := rfl
@[simp] theorem popTxAnswer_total : (popTxAnswer s).total = s.total := rfl
@[simp] theorem popTxAnswer_off : (popTxAnswer s).off = s.off := rfl
@[simp] theorem popTxAnswer_len : (popTxAnswer s).len = s.len := rfl
@[simp] theorem popTxAnswer_lenHeld : (popTxAnswer s).lenHeld = s.lenHeld := rfl
@[simp] theorem popTxAnswer_fb : (popTxAnswer s).fb = s.fb := rfl
@[simp] theorem popTxAnswer_timer : (popTxAnswer s).timer = s.timer := rfl
@[simp] theorem popTxAnswer_txPend : (popTxAnswer s).txPend = s.txPend := rfl
@[simp] theorem popTxAnswer_cfg : (popTxAnswer s).cfg = s.cfg := rfl
@[simp] theorem popTxAnswer_img : (popTxAnswer s).img = s.img := rfl
@[simp] theorem popTxAnswer_cmds : (popTxAnswer s).cmds = s.cmds := rfl
@[simp] theorem popTxAnswer_rx : (popTxAnswer s).rx = s.rx := rfl
@[simp] theorem popTxAnswer_txAns : (popTxAnswer s).txAns = s.txAns.tail := rfl
@[simp] theorem popTxAnswer_draws : (popTxAnswer s).draws = if s.txAns.isEmpty then s.draws + 1 else s.draws := rfl
@[simp] theorem popTxAnswer_trace : (popTxAnswer s).trace = s.trace := rfl
@[simp] theorem popTxAnswer_fres : (popTxAnswer s).fres = s.fres := rfl

/-! ### `txWriteOk` -/

@[simp] theorem txWriteOk_st (X : List Byte) : (txWriteOk X s).st = s.st := rfl
@[simp] theorem txWriteOk_seq (X : List Byte) : (txWriteOk X s).seq = s.seq := rfl
@[simp] theorem txWriteOk_err (X : List Byte) : (txWriteOk X s).err = s.err := rfl
@[simp] theorem txWriteOk_eerr (X : List Byte) : (txWriteOk X s).eerr = s.eerr := rfl
@[simp] theorem txWriteOk_succ (X : List Byte) : (txWriteOk X s).succ = s.succ := rfl
@[simp] theorem txWriteOk_errtot (X : List Byte) : (txWriteOk X s).errtot = s.errtot := rfl
@[simp] theorem txWriteOk_total (X : List Byte) : (txWriteOk X s).total = s.total := rfl
@[simp] theorem txWriteOk_off (X : List Byte) : (txWriteOk X s).off = s.off := rfl
@[simp] theorem txWriteOk_len (X : List Byte) : (txWriteOk X s).len = s.len := rfl
@[simp] theorem txWriteOk_lenHeld (X : List Byte) : (txWriteOk X s).lenHeld = s.lenHeld := rfl
@[simp] theorem txWriteOk_fb (X : List Byte) : (txWriteOk X s).fb = s.fb := rfl
@[simp] theorem txWriteOk_timer (X : List Byte) : (txWriteOk X s).timer = s.timer := rfl
@[simp] theorem txWriteOk_txPend (X : List Byte) : (txWriteOk X s).txPend = s.txPend ++ X := rfl
@[simp] theorem txWriteOk_cfg (X : List Byte) : (txWriteOk X s).cfg = s.cfg := rfl
@[simp] theorem txWriteOk_img (X : List Byte) : (txWriteOk X s).img = s.img := rfl
@[simp] theorem txWriteOk_cmds (X : List Byte) : (txWriteOk X s).cmds = s.cmds := rfl
@[simp] theorem txWriteOk_rx (X : List Byte) : (txWriteOk X s).rx = s.rx := rfl
@[simp] theorem txWriteOk_txAns (X : List Byte) : (txWriteOk X s).txAns = s.txAns := rfl
@[simp] theorem txWriteOk_draws (X : List Byte) : (txWriteOk X s).draws = s.draws := rfl
@[simp] theorem txWriteOk_trace (X : List Byte) : (txWriteOk X s).trace = s.trace ++ [.txOk X] := rfl
@[simp] theorem txWriteOk_fres (X : List Byte) : (txWriteOk X s).fres = s.fres := rfl

/-! ### `txWriteFail` -/

@[simp] theorem txWriteFail_st (X : List Byte) (k j : Nat) : (txWriteFail X k j s).st = s.st := rfl
@[simp] theorem txWriteFail_seq (X : List Byte) (k j : Nat) : (txWriteFail X k j s).seq = s.seq := rfl
@[simp] theorem txWriteFail_err (X : List Byte) (k j : Nat) : (txWriteFail X k j s).err = s.err := rfl
@[simp] theorem txWriteFail_eerr (X : List Byte) (k j : Nat) : (txWriteFail X k j s).eerr = s.eerr := rfl
@[simp] theorem txWriteFail_succ (X : List Byte) (k j : Nat) : (txWriteFail X k j s).succ = s.succ := rfl
@[simp] theorem txWriteFail_errtot (X : List Byte) (k j : Nat) : (txWriteFail X k j s).errtot = s.errtot := rfl
@[simp] theorem txWriteFail_total (X : List Byte) (k j : Nat) : (txWriteFail X k j s).total = s.total := rfl
@[simp] theorem txWriteFail_off (X : List Byte) (k j : Nat) : (txWriteFail X k j s).off = s.off := rfl
@[simp] theorem txWriteFail_len (X : List Byte) (k j : Nat) : (txWriteFail X k j s).len = s.len := rfl
@[simp] theorem txWriteFail_lenHeld (X : List Byte) (k j : Nat) : (txWriteFail X k j s).lenHeld = s.lenHeld := rfl
@[simp] theorem txWriteFail_fb (X : List Byte) (k j : Nat) : (txWriteFail X k j s).fb = s.fb := rfl
@[simp] theorem txWriteFail_timer (X : List Byte) (k j : Nat) : (txWriteFail X k j s).timer = s.timer := rfl
@[simp] theorem txWriteFail_txPend (X : List Byte) (k j : Nat) : (txWriteFail X k j s).txPend = (s.txPend ++ X.take k).drop j := rfl
@[simp] theorem txWriteFail_cfg (X : List Byte) (k j : Nat) : (txWriteFail X k j s).cfg = s.cfg := rfl
@[simp] theorem txWriteFail_img (X : List Byte) (k j : Nat) : (txWriteFail X k j s).img = s.img := rfl
@[simp] theorem txWriteFail_cmds (X : List Byte) (k j : Nat) : (txWriteFail X k j s).cmds = s.cmds := rfl
@[simp] theorem txWriteFail_rx (X : List Byte) (k j : Nat) : (txWriteFail X k j s).rx = s.rx := rfl
@[simp] theorem txWriteFail_txAns (X : List Byte) (k j : Nat) : (txWriteFail X k j s).txAns = s.txAns := rfl
@[simp] theorem txWriteFail_draws (X : List Byte) (k j : Nat) : (txWriteFail X k j s).draws = s.draws := rfl
@[simp] theorem txWriteFail_trace (X : List Byte) (k j : Nat) : (txWriteFail X k j s).trace = s.trace ++ [.txFail X k] := rfl
@[simp] theorem txWriteFail_fres (X : List Byte) (k j : Nat) : (txWriteFail X k j s).fres = s.fres := rfl

/-! ### `txFlush` -/

@[simp] theorem txFlush_st : (txFlush s).st = s.st := rfl
@[simp] theorem txFlush_seq : (txFlush s).seq = s.seq := rfl
@[simp] theorem txFlush_err : (txFlush s).err = s.err := rfl
@[simp] theorem txFlush_eerr : (txFlush s).eerr = s.eerr := rfl
@[simp] theorem txFlush_succ : (txFlush s).succ = s.succ := rfl
@[simp] theorem txFlush_errtot : (txFlush s).errtot = s.errtot := rfl
@[simp] theorem txFlush_total : (txFlush s).total = s.total := rfl
@[simp] theorem txFlush_off : (txFlush s).off = s.off := rfl
@[simp] theorem txFlush_len : (txFlush s).len = s.len := rfl
@[simp] theorem txFlush_lenHeld : (txFlush s).lenHeld = s.lenHeld := rfl
@[simp] theorem txFlush_fb : (txFlush s).fb = s.fb := rfl
@[simp] theorem txFlush_timer : (txFlush s).timer = s.timer := rfl
@[simp] theorem txFlush_txPend : (txFlush s).txPend = [] := rfl
@[simp] theorem txFlush_cfg : (txFlush s).cfg = s.cfg := rfl
@[simp] theorem txFlush_img : (txFlush s).img = s.img := rfl
@[simp] theorem txFlush_cmds : (txFlush s).cmds = s.cmds := rfl
@[simp] theorem txFlush_rx : (txFlush s).rx = s.rx := rfl
@[simp] theorem txFlush_txAns : (txFlush s).txAns = s.txAns := rfl
@[simp] theorem txFlush_draws : (txFlush s).draws = s.draws := rfl
@[simp] theorem txFlush_trace : (txFlush s).trace = s.trace ++ [.txFlush] := rfl
@[simp] theorem txFlush_fres : (txFlush s).fres = s.fres := rfl

/-! ### `progressEvent` -/

@[simp] theorem progressEvent_st (t g b : Nat) : (progressEvent t g b s).st = s.st := rfl
@[simp] theorem progressEvent_seq (t g b : Nat) : (progressEvent t g b s).seq = s.seq := rfl
@[simp] theorem progressEvent_err (t g b : Nat) : (progressEvent t g b s).err = s.err := rfl
@[simp] theorem progressEvent_eerr (t g b : Nat) : (progressEvent t g b s).eerr = s.eerr := rfl
@[simp] theorem progressEvent_succ (t g b : Nat) : (progressEvent t g b s).succ = s.succ := rfl
@[simp] theorem progressEvent_errtot (t g b : Nat) : (progressEvent t g b s).errtot = s.errtot := rfl
@[simp] theorem progressEvent_total (t g b : Nat) : (progressEvent t g b s).total = s.total := rfl
@[simp] theorem progressEvent_off (t g b : Nat) : (progressEvent t g b s).off = s.off := rfl
@[simp] theorem progressEvent_len (t g b : Nat) : (progressEvent t g b s).len = s.len := rfl
@[simp] theorem progressEvent_lenHeld (t g b : Nat) : (progressEvent t g b s).lenHeld = s.lenHeld := rfl
@[simp] theorem progressEvent_fb (t g b : Nat) : (progressEvent t g b s).fb = s.fb := rfl
@[simp] theorem progressEvent_timer (t g b : Nat) : (progressEvent t g b s).timer = s.timer := rfl
@[simp] theorem progressEvent_txPend (t g b : Nat) : (progressEvent t g b s).txPend = s.txPend := rfl
@[simp] theorem progressEvent_cfg (t g b : Nat) : (progressEvent t g b s).cfg = s.cfg := rfl
@[simp] theorem progressEvent_img (t g b : Nat) : (progressEvent t g b s).img = s.img := rfl
@[simp] theorem progressEvent_cmds (t g b : Nat) : (progressEvent t g b s).cmds = s.cmds := rfl
@[simp] theorem progressEvent_rx (t g b : Nat) : (progressEvent t g b s).rx = s.rx := rfl
@[simp] theorem progressEvent_txAns (t g b : Nat) : (progressEvent t g b s).txAns = s.txAns := rfl
@[simp] theorem progressEvent_draws (t g b : Nat) : (progressEvent t g b s).draws = s.draws := rfl
@[simp] theorem progressEvent_trace (t g b : Nat) : (progressEvent t g b s).trace = s.trace ++ [.progress t g b] := rfl
@[simp] theorem progressEvent_fres (t g b : Nat) : (progressEvent t g b s).fres = s.fres := rfl

end Sys2Proof.Machine
end

