-- ==== Sys2Proof/Laws/Ops.lean ====
section
/-! SUPPORT. One lemma for each shared operation that says all it can do; the streams and the session's record after
an update; which step is selected; the step as the execution of the selected row. -/

namespace Sys2Proof.Machine

/-! ### `require` and `Transmit` -/

@[simp] theorem require_eq_next {p : Prop} [Decidable p] {k : Outcome} {t : State} :
    require p k = .next t ↔ p ∧ k = .next t := by
  unfold require; split <;> simp [*]

@[simp] theorem require_eq_fault {p : Prop} [Decidable p] {k : Outcome} {f : Fault} :
    require p k = .fault f ↔ p ∧ k = .fault f := by
  unfold require; split <;> simp [*]

theorem require_pos {p : Prop} [Decidable p] {k : Outcome} (h : p) : require p k = k := if_pos h

theorem require_neg {p : Prop} [Decidable p] {k : Outcome} (h : ¬ p) : require p k = .refused .stepNotSelected :=
  if_neg h

/-- `Transmit`: written, flushed and gone on with, or cut short by `E_TXFAULT` (R133). -/
theorem transmitThen_cases (X : List Byte) (k : State → State) (s : State) :
    (txAnswer s = .ok ∧ transmitThen X k s = k (txFlush (txWriteOk X (popTxAnswer s)))) ∨
    (∃ r d, txAnswer s = .fail r d ∧
      transmitThen X k s = raiseFatal .txFault (txWriteFail X r d (popTxAnswer s))) := by
  unfold transmitThen
  cases h : txAnswer s with
  | ok => exact .inl ⟨rfl, rfl⟩
  | fail r d => exact .inr ⟨r, d, rfl, rfl⟩

theorem transmitThen_ok {X : List Byte} {k : State → State} {s : State} (h : txAnswer s = .ok) :
    transmitThen X k s = k (txFlush (txWriteOk X (popTxAnswer s))) := by
  simp [transmitThen, h]

theorem transmitThen_fail {X : List Byte} {k : State → State} {s : State} {r d : Nat}
    (h : txAnswer s = .fail r d) :
    transmitThen X k s = raiseFatal .txFault (txWriteFail X r d (popTxAnswer s)) := by
  simp [transmitThen, h]

@[simp] theorem txAnswer_note (ops : List PortOp) (s : State) : txAnswer (note ops s) = txAnswer s := rfl
@[simp] theorem rxAnswer_note (ops : List PortOp) (s : State) : rxAnswer (note ops s) = rxAnswer s := rfl
@[simp] theorem rxAnswer_popCommand (s : State) : rxAnswer (popCommand s) = rxAnswer s := rfl
@[simp] theorem txAnswer_popCommand (s : State) : txAnswer (popCommand s) = txAnswer s := rfl

/-! ### The streams -/

/-- What an update that appends to the record appends to TX. -/
theorem txStream_append {s t : State} {ops : List PortOp} (h : t.trace = s.trace ++ ops) :
    txStream t = txStream s ++ ops.flatMap PortOp.txBytes := by
  simp [txStream, h]

theorem progressStream_append {s t : State} {ops : List PortOp} (h : t.trace = s.trace ++ ops) :
    progressStream t = progressStream s ++ ops.filterMap PortOp.progressTriple := by
  simp [progressStream, h]

theorem eventStream_append {s t : State} {ops : List PortOp} (h : t.trace = s.trace ++ ops) :
    eventStream t = eventStream s ++ ops.filterMap PortOp.errorEvent := by
  simp [eventStream, h]

@[simp] theorem sessionOps_nil : sessionOps [] = [] := rfl

/-- One more entry: RESET begins a session's record, any other entry lengthens it. -/
theorem sessionOps_append_one (ops : List PortOp) (op : PortOp) :
    sessionOps (ops ++ [op]) = if op = .reset then [] else sessionOps ops ++ [op] := by
  simp [sessionOps]

/-- Entries without a RESET lengthen the session's record. -/
theorem sessionOps_append (ops ops' : List PortOp) (h : PortOp.reset ∉ ops') :
    sessionOps (ops ++ ops') = sessionOps ops ++ ops' := by
  induction ops' generalizing ops with
  | nil => simp
  | cons op rest ih =>
    obtain ⟨h1, h2⟩ := not_or.1 (List.mem_cons.not.1 h)
    rw [List.append_cons, ih _ h2, sessionOps_append_one, if_neg (Ne.symm h1), List.append_assoc]
    rfl

@[simp] theorem errorEvent_raised (e : ErrorEvent) (ops : List PortOp) :
    (PortOp.raised e :: ops).filterMap PortOp.errorEvent = e :: ops.filterMap PortOp.errorEvent := rfl

@[simp] theorem progressTriple_progress (t g b : Nat) (ops : List PortOp) :
    (PortOp.progress t g b :: ops).filterMap PortOp.progressTriple =
      (t, g, b) :: ops.filterMap PortOp.progressTriple := rfl

/-! ### The effects -/

/-- SEND_BLOCK's effect answers a next state exactly when the image gives the chunk. -/
theorem sendBlockEffect_eq_next {s t : State} :
    sendBlockEffect s = .next t ↔
      ∃ c, imageRead s.len s.img s.off (chunkLen s.len s.off) = some c ∧
        t = transmitThen (encodeFrame s.seq c) (fun s => goto .awaitAck { s with total := s.total + 1 })
          (note [.memRead s.off (chunkLen s.len s.off), .memWrite 0 (encodeFrame s.seq c)]
            { s with
              fb := memWrite s.fb 0 (encodeFrame s.seq c), off := s.off + chunkLen s.len s.off, err := 0 }) := by
  unfold sendBlockEffect
  cases hc : imageRead s.len s.img s.off (chunkLen s.len s.off) with
  | none => simp [hc]
  | some c => simp [hc, eq_comm]

/-- RETRY.RESEND's effect answers a next state exactly when `FB` holds a value. -/
theorem resendEffect_eq_next {s t : State} :
    resendEffect s = .next t ↔
      ∃ F, frameInBuffer s = some F ∧
        t = transmitThen F (fun s => goto .awaitAck { s with total := s.total + 1 }) s := by
  unfold resendEffect
  cases h : frameInBuffer s with
  | none => simp
  | some F => simp [eq_comm]

/-- The `ACK` arm: a block left to send, or the last one acknowledged (R151). -/
theorem ackBlockEffect_cases (s : State) :
    (s.off = s.len ∧ ackBlockEffect s = goto .sendEot
      (progressEvent s.total (s.succ + 1) s.errtot { rxRead s with seq := seqNext s.seq, succ := s.succ + 1 })) ∨
    (s.off ≠ s.len ∧ ackBlockEffect s = goto .sendBlock
      (progressEvent s.total (s.succ + 1) s.errtot { rxRead s with seq := seqNext s.seq, succ := s.succ + 1 })) := by
  unfold ackBlockEffect
  by_cases h : s.off = s.len
  · exact .inl ⟨h, by rw [if_pos h]⟩
  · exact .inr ⟨h, by rw [if_neg h]⟩

/-- A failed `EOT` attempt: past the limit the fatal event, else the re-send (R158, R159). -/
theorem failedEotEffect_cases (e : ErrorEvent) (s : State) :
    (s.eerr + 1 > s.cfg.eotMaxRetry ∧ failedEotEffect e s =
      raiseFatal .eotExhausted { raiseEvent e (rxRead s) with eerr := s.eerr + 1 }) ∨
    (s.eerr + 1 ≤ s.cfg.eotMaxRetry ∧ failedEotEffect e s =
      goto .sendEot { raiseEvent e (rxRead s) with eerr := s.eerr + 1 }) := by
  unfold failedEotEffect
  by_cases h : s.eerr + 1 > s.cfg.eotMaxRetry
  · exact .inl ⟨h, if_pos h⟩
  · exact .inr ⟨by omega, if_neg h⟩

/-- The frame `FB` holds has 132 bytes. -/
theorem frameInBuffer_length {s : State} {F : List Byte} (h : frameInBuffer s = some F) : F.length = FRAME_LEN :=
  memRead_length h

/-! ### Selection -/

@[simp] theorem ofCode_code (st : St) : St.ofCode st.code = st := by cases st <;> rfl

@[simp] theorem dispatchSt_wordOf (st : St) (v : Bool) (b : Byte) : dispatchSt (dispatchWordOf st v b) = st := by
  have h : (dispatchWordOf st v b).extractLsb' 9 3 = st.code := by
    apply BitVec.eq_of_getLsbD_eq
    intro i hi
    simp only [dispatchWordOf, BitVec.getLsbD_extractLsb', BitVec.getLsbD_append]
    simp [hi, show ¬ (9 + i < 8) by omega, show ¬ (9 + i - 8 < 1) by omega, show 9 + i - 8 - 1 = i by omega]
  rw [dispatchSt, h, ofCode_code]

@[simp] theorem dispatchRxv_wordOf (st : St) (v : Bool) (b : Byte) : dispatchRxv (dispatchWordOf st v b) = v := by
  rw [dispatchRxv, dispatchWordOf, BitVec.getLsbD_append, BitVec.getLsbD_append]
  simp

@[simp] theorem dispatchRxb_wordOf (st : St) (v : Bool) (b : Byte) : dispatchRxb (dispatchWordOf st v b) = b := by
  apply BitVec.eq_of_getLsbD_eq
  intro i hi
  simp only [dispatchRxb, dispatchWordOf, BitVec.getLsbD_extractLsb', BitVec.getLsbD_append]
  simp [hi]

/-- The step selected, by `ST`, the answer of `RxRead` and the retry limit: the table of R91 read through the word of
R90. -/
theorem selectedRow_eq (s : State) :
    selectedRow s =
      match s.st with
      | .awaitStart => .awaitStart
      | .sendBlock => .sendBlock
      | .awaitAck =>
        match rxAnswer s with
        | .byte b => if b = ACK then .awaitAckAck else if b = NAK then .awaitAckNak else .awaitAckNoise b
        | .timeout => .awaitAckTimeout
      | .retry => if s.err > s.cfg.maxRetry then .retryFail else .retryResend
      | .done => .done
      | .failed => .failed
      | .sendEot => .sendEot
      | .awaitEotAck =>
        match rxAnswer s with
        | .byte b => if b = ACK then .awaitEotAckAck else if b = NAK then .awaitEotAckNak else .awaitEotAckNoise b
        | .timeout => .awaitEotAckTimeout := by
  unfold selectedRow dispatchWord windowOpen
  cases h : s.st <;> simp only [decodeDispatch]
  case awaitAck => cases h2 : rxAnswer s <;> simp
  case awaitEotAck => cases h2 : rxAnswer s <;> simp
  case retry => simp [condOf, retriesExhausted]
  all_goals simp

/-- A dispatch row's step is its instruction's meaning. -/
theorem runRow_eq_exec (r : DispatchRow) (s : State) : runRow r s = exec r.toInstr s := by
  cases r <;> rfl

/-- What the command port selects (R92), one case each. -/
theorem step_cases (s : State) :
    ((command s).word.getLsbD 1 = true ∧ step s = .next (resetEffect (popCommand s))) ∨
    ((command s).word = 1#2 ∧ s.st = .awaitStart ∧
      step s = .next (startEffect (command s).len (popCommand s))) ∨
    ((command s).word = 1#2 ∧ s.st ≠ .awaitStart ∧ step s = .next (popCommand s)) ∨
    ((command s).word = 0#2 ∧ step s = runRow (selectedRow (popCommand s)) (popCommand s)) := by
  have hw : ∀ w : BitVec 2, w = 0#2 ∨ w = 1#2 ∨ w.getLsbD 1 = true := by decide
  unfold step selectedCommand
  rcases hw (command s).word with h | h | h
  · refine .inr (.inr (.inr ⟨h, ?_⟩))
    simp [decodeCommand, h, exec, execNocmd, require_pos]
  · by_cases hst : s.st = .awaitStart
    · refine .inr (.inl ⟨h, hst, ?_⟩)
      simp [decodeCommand, h, exec, execStart, condOf, hst, require_pos]
    · refine .inr (.inr (.inl ⟨h, hst, ?_⟩))
      simp [decodeCommand, h, exec, execStartRefused, condOf, hst, require_pos]
  · refine .inl ⟨h, ?_⟩
    simp [decodeCommand, h, exec, execReset, require_pos]

end Sys2Proof.Machine
end

