-- ==== Sys2Proof/Laws/PerInstr.lean ====
section
/-! SUPPORT. Statements made per instruction: the width of an instruction's encoding in whole bytes, as the opcode
table gives it for its row (R80 to R82, R85, R90, R92, R94). -/

namespace Sys2Proof.Laws.EncodingWidth

/-- The width of a row in whole bytes; no bits for a pure function. -/
def rowBytes (i : Instr) : Nat :=
  match i.format with
  | .cmd => 1
  | .dispatch => 2
  | .tx => if i = .eot then 1 else FRAME_LEN
  | .rsp => 1
  | .func => 0

/-- A well-formed instruction's encoding fills its row's width. -/
def Statement (i : Instr) : Prop := i.wellFormed = true → (encode i).length = rowBytes i

theorem reset : Statement .reset := fun _ => rfl
theorem start : Statement .start := fun _ => rfl
theorem startRefused : Statement .startRefused := fun _ => rfl
theorem nocmd : Statement .nocmd := fun _ => rfl
theorem awaitStart : Statement .awaitStart := fun _ => rfl
theorem sendBlock : Statement .sendBlock := fun _ => rfl
theorem awaitAckAck : Statement .awaitAckAck := fun _ => rfl
theorem awaitAckNak : Statement .awaitAckNak := fun _ => rfl
theorem awaitAckTimeout : Statement .awaitAckTimeout := fun _ => rfl
theorem awaitAckNoise (rxb : Byte) : Statement (.awaitAckNoise rxb) := fun _ => rfl
theorem retryFail : Statement .retryFail := fun _ => rfl
theorem retryResend : Statement .retryResend := fun _ => rfl
theorem done : Statement .done := fun _ => rfl
theorem failed : Statement .failed := fun _ => rfl
theorem sendEot : Statement .sendEot := fun _ => rfl
theorem awaitEotAckAck : Statement .awaitEotAckAck := fun _ => rfl
theorem awaitEotAckNak : Statement .awaitEotAckNak := fun _ => rfl
theorem awaitEotAckTimeout : Statement .awaitEotAckTimeout := fun _ => rfl
theorem awaitEotAckNoise (rxb : Byte) : Statement (.awaitEotAckNoise rxb) := fun _ => rfl
theorem data (seq cseq : Byte) (payload : List Byte) (chk : Byte) : Statement (.data seq cseq payload chk) := by
  intro h
  simp only [Instr.wellFormed, Bool.and_eq_true, beq_iff_eq] at h
  simp [encode, rowBytes, Instr.format, h.1.1, BLOCK, FRAME_LEN]
theorem eot : Statement .eot := fun _ => rfl
theorem ack : Statement .ack := fun _ => rfl
theorem nak : Statement .nak := fun _ => rfl
theorem noise (b : Byte) : Statement (.noise b) := fun _ => rfl
theorem seqnext (seq : Byte) : Statement (.seqnext seq) := fun _ => rfl
theorem cseq (seq : Byte) : Statement (.cseq seq) := fun _ => rfl
theorem padblk (chunk : List Byte) : Statement (.padblk chunk) := fun _ => rfl
theorem chk (payload : List Byte) : Statement (.chk payload) := fun _ => rfl
theorem chunklen (L off : Nat) : Statement (.chunklen L off) := fun _ => rfl
theorem nblocks (L : Nat) : Statement (.nblocks L) := fun _ => rfl
theorem encode (seq : Byte) (chunk : List Byte) : Statement (.encode seq chunk) := fun _ => rfl
theorem verify (F : List Byte) : Statement (.verify F) := fun _ => rfl
theorem decode (F : List Byte) : Statement (.decode F) := fun _ => rfl
theorem verifyseq (F : List Byte) (exp : Byte) : Statement (.verifyseq F exp) := fun _ => rfl

end Sys2Proof.Laws.EncodingWidth
end

