-- ==== Sys2Proof/Laws/Step.lean ====
section
/-! SUPPORT. What a step of the dispatch table can do, said once: `RowStep` lists each outcome with its conditions
and the whole next state; `runRow_next` says that a row that answers a next state took one of them. -/

namespace Sys2Proof.Machine

/-- The answer of `RxRead` is spent and noted, with what follows it in the record. -/
abbrev afterRx (s : State) (ops : List PortOp) : State :=
  { s with
    rx := s.rx.tail
    draws := if s.rx.isEmpty then s.draws + 1 else s.draws
    trace := s.trace ++ .rxRead (rxAnswer s) :: ops }

/-- The answer of `TxWrite` is spent, with what the step adds to the record. -/
abbrev afterTx (s : State) (pend : List Byte) (ops : List PortOp) : State :=
  { s with
    txPend := pend
    txAns := s.txAns.tail
    draws := if s.txAns.isEmpty then s.draws + 1 else s.draws
    trace := s.trace ++ ops }

/-- `ST` with the wait timer. -/
abbrev atSt (st : St) (s : State) : State := { s with st := st, timer := timerFor s.cfg st }

/-- The outcomes of the steps of the dispatch table (R200), each with its condition and its next state. -/
inductive RowStep (s : State) : DispatchRow → State → Prop
  | awaitStart (st : s.st = .awaitStart) : RowStep s .awaitStart s
  | done (st : s.st = .done) : RowStep s .done s
  | failed (st : s.st = .failed) : RowStep s .failed s
  | sendOk (c : List Byte) (st : s.st = .sendBlock)
      (read : imageRead s.len s.img s.off (chunkLen s.len s.off) = some c) (tx : txAnswer s = .ok) :
      RowStep s .sendBlock
        { atSt .awaitAck (afterTx s [] [.memRead s.off (chunkLen s.len s.off), .memWrite 0 (encodeFrame s.seq c),
            .txOk (encodeFrame s.seq c), .txFlush]) with
          total := s.total + 1, fb := memWrite s.fb 0 (encodeFrame s.seq c), off := s.off + chunkLen s.len s.off,
          err := 0 }
  | sendFail (c : List Byte) (k j : Nat) (st : s.st = .sendBlock)
      (read : imageRead s.len s.img s.off (chunkLen s.len s.off) = some c) (tx : txAnswer s = .fail k j) :
      RowStep s .sendBlock
        { atSt .failed (afterTx s ((s.txPend ++ (encodeFrame s.seq c).take k).drop j)
            [.memRead s.off (chunkLen s.len s.off), .memWrite 0 (encodeFrame s.seq c),
              .txFail (encodeFrame s.seq c) k, .raised .txFault]) with
          fb := memWrite s.fb 0 (encodeFrame s.seq c), off := s.off + chunkLen s.len s.off, err := 0 }
  | retryFail (st : s.st = .retry) (err : s.err > s.cfg.maxRetry) :
      RowStep s .retryFail { atSt .failed s with trace := s.trace ++ [.raised .retryExhausted] }
  | resendOk (F : List Byte) (st : s.st = .retry) (err : s.err ≤ s.cfg.maxRetry) (fb : frameInBuffer s = some F)
      (tx : txAnswer s = .ok) :
      RowStep s .retryResend
        { atSt .awaitAck (afterTx s [] [.txOk F, .txFlush]) with total := s.total + 1 }
  | resendFail (F : List Byte) (k j : Nat) (st : s.st = .retry) (err : s.err ≤ s.cfg.maxRetry)
      (fb : frameInBuffer s = some F) (tx : txAnswer s = .fail k j) :
      RowStep s .retryResend
        (atSt .failed (afterTx s ((s.txPend ++ F.take k).drop j) [.txFail F k, .raised .txFault]))
  | eotOk (st : s.st = .sendEot) (tx : txAnswer s = .ok) :
      RowStep s .sendEot (atSt .awaitEotAck (afterTx s [] [.txOk [EOT], .txFlush]))
  | eotFail (k j : Nat) (st : s.st = .sendEot) (tx : txAnswer s = .fail k j) :
      RowStep s .sendEot
        (atSt .failed (afterTx s ((s.txPend ++ [EOT].take k).drop j) [.txFail [EOT] k, .raised .txFault]))
  | ackMore (st : s.st = .awaitAck) (rx : rxAnswer s = .byte ACK) (off : s.off ≠ s.len) :
      RowStep s .awaitAckAck
        { atSt .sendBlock (afterRx s [.progress s.total (s.succ + 1) s.errtot]) with
          seq := seqNext s.seq, succ := s.succ + 1 }
  | ackLast (st : s.st = .awaitAck) (rx : rxAnswer s = .byte ACK) (off : s.off = s.len) :
      RowStep s .awaitAckAck
        { atSt .sendEot (afterRx s [.progress s.total (s.succ + 1) s.errtot]) with
          seq := seqNext s.seq, succ := s.succ + 1 }
  | nak (st : s.st = .awaitAck) (rx : rxAnswer s = .byte NAK) :
      RowStep s .awaitAckNak
        { atSt .retry (afterRx s [.raised .nak, .progress s.total s.succ (s.errtot + 1)]) with
          err := s.err + 1, errtot := s.errtot + 1 }
  | timeout (st : s.st = .awaitAck) (rx : rxAnswer s = .timeout) :
      RowStep s .awaitAckTimeout
        { atSt .retry (afterRx s [.raised .timeout, .progress s.total s.succ (s.errtot + 1)]) with
          err := s.err + 1, errtot := s.errtot + 1 }
  | noise (b : Byte) (st : s.st = .awaitAck) (rx : rxAnswer s = .byte b) (noise : isNoise b = true) :
      RowStep s (.awaitAckNoise b) (afterRx s [.raised .noise])
  | finalAck (st : s.st = .awaitEotAck) (rx : rxAnswer s = .byte ACK) :
      RowStep s .awaitEotAckAck (atSt .done (afterRx s []))
  | eotNak (st : s.st = .awaitEotAck) (rx : rxAnswer s = .byte NAK) (eerr : s.eerr + 1 ≤ s.cfg.eotMaxRetry) :
      RowStep s .awaitEotAckNak { atSt .sendEot (afterRx s [.raised .nak]) with eerr := s.eerr + 1 }
  | eotNakLast (st : s.st = .awaitEotAck) (rx : rxAnswer s = .byte NAK) (eerr : s.eerr + 1 > s.cfg.eotMaxRetry) :
      RowStep s .awaitEotAckNak
        { atSt .failed (afterRx s [.raised .nak, .raised .eotExhausted]) with eerr := s.eerr + 1 }
  | eotTimeout (st : s.st = .awaitEotAck) (rx : rxAnswer s = .timeout) (eerr : s.eerr + 1 ≤ s.cfg.eotMaxRetry) :
      RowStep s .awaitEotAckTimeout { atSt .sendEot (afterRx s [.raised .timeout]) with eerr := s.eerr + 1 }
  | eotTimeoutLast (st : s.st = .awaitEotAck) (rx : rxAnswer s = .timeout)
      (eerr : s.eerr + 1 > s.cfg.eotMaxRetry) :
      RowStep s .awaitEotAckTimeout
        { atSt .failed (afterRx s [.raised .timeout, .raised .eotExhausted]) with eerr := s.eerr + 1 }
  | eotNoise (b : Byte) (st : s.st = .awaitEotAck) (rx : rxAnswer s = .byte b) (noise : isNoise b = true) :
      RowStep s (.awaitEotAckNoise b) (afterRx s [.raised .noise])

theorem RowStep.of_eq {s t t' : State} {r : DispatchRow} (h : RowStep s r t) (e : t' = t) : RowStep s r t' := e ▸ h

theorem sendBlock_next {s t : State} (h : runRow .sendBlock s = .next t) : RowStep s .sendBlock t := by
  simp only [runRow, execSendBlock, require_eq_next] at h
  obtain ⟨c, hc, rfl⟩ := sendBlockEffect_eq_next.1 h.2
  cases ha : txAnswer s with
  | ok =>
    refine (RowStep.sendOk c h.1 hc ha).of_eq (Eq.trans (transmitThen_ok ?_) ?_)
    · exact ha
    · simp [goto, txFlush, txWriteOk, popTxAnswer, note]
  | fail k j =>
    refine (RowStep.sendFail c k j h.1 hc ha).of_eq (Eq.trans (transmitThen_fail (r := k) (d := j) ?_) ?_)
    · exact ha
    · simp [raiseFatal, raiseEvent, goto, txWriteFail, popTxAnswer, note]

theorem resend_next {s t : State} (h : runRow .retryResend s = .next t) : RowStep s .retryResend t := by
  simp only [runRow, execRetryResend, require_eq_next] at h
  obtain ⟨F, hF, rfl⟩ := resendEffect_eq_next.1 h.2
  cases ha : txAnswer s with
  | ok =>
    refine (RowStep.resendOk F h.1.1 h.1.2 hF ha).of_eq ((transmitThen_ok ha).trans ?_)
    simp [goto, txFlush, txWriteOk, popTxAnswer]
  | fail k j =>
    refine (RowStep.resendFail F k j h.1.1 h.1.2 hF ha).of_eq ((transmitThen_fail ha).trans ?_)
    simp [raiseFatal, raiseEvent, goto, txWriteFail, popTxAnswer, note]

theorem sendEot_next {s t : State} (h : runRow .sendEot s = .next t) : RowStep s .sendEot t := by
  simp only [runRow, execSendEot, require_eq_next] at h
  obtain ⟨h1, h2⟩ := h
  cases h2
  cases ha : txAnswer s with
  | ok =>
    refine (RowStep.eotOk h1 ha).of_eq ((transmitThen_ok ha).trans ?_)
    simp [goto, txFlush, txWriteOk, popTxAnswer]
  | fail k j =>
    refine (RowStep.eotFail k j h1 ha).of_eq ((transmitThen_fail ha).trans ?_)
    simp [raiseFatal, raiseEvent, goto, txWriteFail, popTxAnswer, note]

theorem ack_next {s t : State} (h : runRow .awaitAckAck s = .next t) : RowStep s .awaitAckAck t := by
  simp only [runRow, execAwaitAckAck, require_eq_next] at h
  obtain ⟨h1, h2⟩ := h
  cases h2
  rcases ackBlockEffect_cases s with ⟨ho, ht⟩ | ⟨ho, ht⟩
  · refine (RowStep.ackLast h1.1 h1.2 ho).of_eq (ht.trans ?_)
    simp [goto, progressEvent, rxRead, note]
  · refine (RowStep.ackMore h1.1 h1.2 ho).of_eq (ht.trans ?_)
    simp [goto, progressEvent, rxRead, note]

theorem eotNak_next {s t : State} (h : runRow .awaitEotAckNak s = .next t) : RowStep s .awaitEotAckNak t := by
  simp only [runRow, execAwaitEotAckNak, require_eq_next] at h
  obtain ⟨h1, h2⟩ := h
  cases h2
  rcases failedEotEffect_cases .nak s with ⟨hc, ht⟩ | ⟨hc, ht⟩
  · refine (RowStep.eotNakLast h1.1 h1.2 hc).of_eq (ht.trans ?_)
    simp [raiseFatal, raiseEvent, goto, rxRead, note]
  · refine (RowStep.eotNak h1.1 h1.2 hc).of_eq (ht.trans ?_)
    simp [raiseEvent, goto, rxRead, note]

theorem eotTimeout_next {s t : State} (h : runRow .awaitEotAckTimeout s = .next t) :
    RowStep s .awaitEotAckTimeout t := by
  simp only [runRow, execAwaitEotAckTimeout, require_eq_next] at h
  obtain ⟨h1, h2⟩ := h
  cases h2
  rcases failedEotEffect_cases .timeout s with ⟨hc, ht⟩ | ⟨hc, ht⟩
  · refine (RowStep.eotTimeoutLast h1.1 h1.2 hc).of_eq (ht.trans ?_)
    simp [raiseFatal, raiseEvent, goto, rxRead, note]
  · refine (RowStep.eotTimeout h1.1 h1.2 hc).of_eq (ht.trans ?_)
    simp [raiseEvent, goto, rxRead, note]

/-- A dispatch row that answers a next state took one of the listed outcomes. -/
theorem runRow_next {s t : State} {r : DispatchRow} (h : runRow r s = .next t) : RowStep s r t := by
  cases r with
  | awaitStart =>
    simp only [runRow, execAwaitStart, require_eq_next] at h
    obtain ⟨h1, h2⟩ := h; cases h2; exact .awaitStart h1
  | done =>
    simp only [runRow, execDone, require_eq_next] at h
    obtain ⟨h1, h2⟩ := h; cases h2; exact .done h1
  | failed =>
    simp only [runRow, execFailed, require_eq_next] at h
    obtain ⟨h1, h2⟩ := h; cases h2; exact .failed h1
  | sendBlock => exact sendBlock_next h
  | retryResend => exact resend_next h
  | sendEot => exact sendEot_next h
  | awaitAckAck => exact ack_next h
  | awaitEotAckNak => exact eotNak_next h
  | awaitEotAckTimeout => exact eotTimeout_next h
  | retryFail =>
    simp only [runRow, execRetryFail, require_eq_next] at h
    obtain ⟨h1, h2⟩ := h; cases h2; exact .retryFail h1.1 h1.2
  | awaitAckNak =>
    simp only [runRow, execAwaitAckNak, require_eq_next] at h
    obtain ⟨h1, h2⟩ := h; cases h2
    refine (RowStep.nak h1.1 h1.2).of_eq ?_
    simp [failedAttemptEffect, raiseEvent, goto, progressEvent, rxRead, note]
  | awaitAckTimeout =>
    simp only [runRow, execAwaitAckTimeout, require_eq_next] at h
    obtain ⟨h1, h2⟩ := h; cases h2
    refine (RowStep.timeout h1.1 h1.2).of_eq ?_
    simp [failedAttemptEffect, raiseEvent, goto, progressEvent, rxRead, note]
  | awaitAckNoise b =>
    simp only [runRow, execAwaitAckNoise, require_eq_next] at h
    obtain ⟨h1, h2⟩ := h; cases h2
    refine (RowStep.noise b h1.1 h1.2.1 h1.2.2).of_eq ?_
    simp [noiseEffect, raiseEvent, rxRead, note]
  | awaitEotAckNoise b =>
    simp only [runRow, execAwaitEotAckNoise, require_eq_next] at h
    obtain ⟨h1, h2⟩ := h; cases h2
    refine (RowStep.eotNoise b h1.1 h1.2.1 h1.2.2).of_eq ?_
    simp [noiseEffect, raiseEvent, rxRead, note]
  | awaitEotAckAck =>
    simp only [runRow, execAwaitEotAckAck, require_eq_next] at h
    obtain ⟨h1, h2⟩ := h; cases h2; exact .finalAck h1.1 h1.2

/-- What a step can do: a command of the host (R92) or a step of the dispatch table. -/
theorem step_next_cases {s t : State} (h : step s = .next t) :
    ((command s).word.getLsbD 1 = true ∧ t = resetEffect (popCommand s)) ∨
    ((command s).word = 1#2 ∧ s.st = .awaitStart ∧ t = startEffect (command s).len (popCommand s)) ∨
    ((command s).word = 1#2 ∧ s.st ≠ .awaitStart ∧ t = popCommand s) ∨
    ((command s).word = 0#2 ∧ RowStep (popCommand s) (selectedRow s) t) := by
  rcases step_cases s with ⟨h1, e⟩ | ⟨h1, h2, e⟩ | ⟨h1, h2, e⟩ | ⟨h1, e⟩ <;> rw [e] at h
  · exact .inl ⟨h1, by cases h; rfl⟩
  · exact .inr (.inl ⟨h1, h2, by cases h; rfl⟩)
  · exact .inr (.inr (.inl ⟨h1, h2, by cases h; rfl⟩))
  · exact .inr (.inr (.inr ⟨h1, runRow_next h⟩))

end Sys2Proof.Machine
end

