-- ==== Sys2Proof/Tests/Slice0.lean ====
section
/-! SUPPORT. Tests of the model on small states. Expected results are the spec's (`95_test_vectors.md`, named in each
comment; `30_encoding.md` for words). Then, for every statement with hypotheses, a witness that meets them. -/

namespace Sys2Proof.Tests

open Sys2Proof.Machine Sys2Proof.Safety

set_option Elab.async false

/-! ### Helpers -/

/-- The next state, if there is one. -/
def nextOf (o : Outcome) : Option State :=
  match o with
  | .next t => some t
  | .fault _ => none
  | .refused _ => none

def after (i : Instr) (s : State) : Option State := nextOf (exec i s)

theorem next_of_isSome {o : Outcome} (h : (nextOf o).isSome = true) : ∃ t, o = .next t := by
  cases o with
  | next t => exact ⟨t, rfl⟩
  | fault f => cases h
  | refused r => cases h

/-- A state written as the spec writes it: `ST / SEQ ERR EERR SUCC ERRTOT TOTAL OFF LEN`. -/
def at_ (st : St) (seq : Byte) (err eerr succ errtot total off len : Nat) : State :=
  { State.reset with
    st := st, seq := seq, err := err, eerr := eerr, succ := succ, errtot := errtot, total := total, off := off,
    len := len, lenHeld := true, timer := timerFor Cfg.default st }

/-- The registers, in the same order. -/
structure Line where
  st : St
  seq : Byte
  err : Nat
  eerr : Nat
  succ : Nat
  errtot : Nat
  total : Nat
  off : Nat
  len : Nat
  lenHeld : Bool
deriving DecidableEq, Repr

def regs (s : State) : Line := ⟨s.st, s.seq, s.err, s.eerr, s.succ, s.errtot, s.total, s.off, s.len, s.lenHeld⟩

def hearing (a : RxAnswer) (s : State) : State := { s with rx := [a] }
def answering (a : TxAnswer) (s : State) : State := { s with txAns := [a] }
def asked (w : BitVec 2) (L : Nat) (s : State) : State := { s with cmds := [⟨w, L⟩] }

/-- The image of T4: byte `i` is `i mod 256`. -/
def ramp (n : Nat) : Memory := (List.range n).map fun i => (i, BitVec.ofNat 8 i)

/-- Frame E7, `ENCODE(1, [0x41])`. -/
def frameE7 : List Byte := [0x01, 0x01, 0xFE, 0x41] ++ List.replicate 127 0x1A#8 ++ [0x27]

/-- The chunk of frame E8: `00 01 ... 2B`. -/
def chunkE8 : List Byte := (List.range 44).map fun i => BitVec.ofNat 8 i

/-- Frame E8, `ENCODE(3, 00 01 ... 2B)`. -/
def frameE8 : List Byte := [0x01, 0x03, 0xFC] ++ chunkE8 ++ List.replicate 84 0x1A#8 ++ [0x3A]

/-! ### Well-formedness: a term each check refuses -/

theorem test_wf_noise_arms_refused :
    (Instr.awaitAckNoise ACK).wellFormed = false ∧ (Instr.awaitAckNoise NAK).wellFormed = false ∧
      (Instr.awaitEotAckNoise ACK).wellFormed = false ∧ (Instr.awaitEotAckNoise NAK).wellFormed = false ∧
      (Instr.noise ACK).wellFormed = false ∧ (Instr.noise NAK).wellFormed = false := by decide

theorem test_wf_data_refused :
    (Instr.data 1 0xFE [] 0).wellFormed = false ∧
      (Instr.data 1 0xFF (List.replicate 128 0) 0).wellFormed = false ∧
      (Instr.data 1 0xFE (List.replicate 128 0) 1).wellFormed = false := by decide +kernel

theorem test_wf_functions_refused :
    (Instr.padblk (List.replicate 129 0)).wellFormed = false ∧ (Instr.chk []).wellFormed = false ∧
      (Instr.chunklen 0 1).wellFormed = false ∧ (Instr.encode 1 (List.replicate 129 0)).wellFormed = false ∧
      (Instr.decode []).wellFormed = false ∧ (Instr.verifyseq [] 1).wellFormed = false := by decide +kernel

/-! ### Decoding: words written out from the tables of R81, R82, R85, R91, R92 -/

/-- R92: `1x` RESET, `01` START, `00` none. -/
theorem test_decode_commands :
    [0b10, 0b11, 0b01, 0b00].map (decodeTableWord 8) = [some .reset, some .reset, some .start, some .nocmd] ∧
      decodeCommand ⟨false, false⟩ 0b01#2 = .startRefused := by decide

/-- X1. -/
theorem test_decode_awaitAck :
    [0x506, 0x515, 0x400, 0x543, 0x500].map (decodeTableWord 16) =
      [some .awaitAckAck, some .awaitAckNak, some .awaitAckTimeout, some (.awaitAckNoise 0x43),
        some (.awaitAckNoise 0x00)] := by decide

/-- X1. -/
theorem test_decode_awaitEotAck :
    [0xF06, 0xF15, 0xE00, 0xF18].map (decodeTableWord 16) =
      [some .awaitEotAckAck, some .awaitEotAckNak, some .awaitEotAckTimeout, some (.awaitEotAckNoise 0x18)] := by
  decide

/-- X1; RETRY.FAIL and RETRY.RESEND share a word (R91). -/
theorem test_decode_other_steps :
    [0x200, 0x600, 0xC00, 0x800, 0xA00, 0x000].map (decodeTableWord 16) =
      [some .sendBlock, some .retryResend, some .sendEot, some .done, some .failed, some .awaitStart] ∧
      decodeDispatch ⟨false, true⟩ 0x600#12 = .retryFail := by decide

/-- R82, R85: the bytes 04, 06, 15 and any other. -/
theorem test_decode_bytes :
    [0x04, 0x06, 0x15, 0x43, 0xFF].map (decodeTableWord 8) =
      [some .eot, some .ack, some .nak, some (.noise 0x43), some (.noise 0xFF)] := by decide

/-- R81 on frame E7, byte 0 in the most significant bits. -/
theorem test_decode_frame :
    decodeTableWord 1056 0x0101FE411A1A1A1A1A1A1A1A1A1A1A1A1A1A1A1A1A1A1A1A1A1A1A1A1A1A1A1A1A1A1A1A1A1A1A1A1A1A1A1A1A1A1A1A1A1A1A1A1A1A1A1A1A1A1A1A1A1A1A1A1A1A1A1A1A1A1A1A1A1A1A1A1A1A1A1A1A1A1A1A1A1A1A1A1A1A1A1A1A1A1A1A1A1A1A1A1A1A1A1A1A1A1A1A1A1A1A1A1A1A1A1A1A1A1A1A1A1A1A1A1A1A1A1A1A1A1A27 =
      some (.data 0x01 0xFE (0x41#8 :: List.replicate 127 0x1A#8) 0x27) := by decide +kernel

/-- R83: "no other first byte occurs on TX". -/
theorem test_decode_refuses :
    decodeTableWord 16 0x1000 = none ∧ decodeTableWord 1056 0x06 = none ∧ decodeTableWord 24 0 = none := by
  decide +kernel

/-! ### Commands -/

/-- Z1, Z2: START is not taken with RESET. -/
theorem test_reset :
    (after .reset (asked 0b11 5 (at_ .awaitAck 9 1 2 3 4 5 6 700))).map (fun t => (regs t, t.fb, t.timer)) =
      some (⟨.awaitStart, 1, 0, 0, 0, 0, 0, 0, 0, false⟩, [], none) := by decide

/-- T1, T2. -/
theorem test_start :
    (after .start (asked 0b01 300 State.reset)).map regs = some ⟨.sendBlock, 1, 0, 0, 0, 0, 0, 0, 300, true⟩ ∧
      (after .start (asked 0b01 0 State.reset)).map regs = some ⟨.sendEot, 1, 0, 0, 0, 0, 0, 0, 0, true⟩ := by decide

/-- T3. -/
theorem test_start_refused :
    (after .startRefused (asked 0b01 5 (at_ .retry 1 1 0 0 1 1 128 300))).map regs =
      some ⟨.retry, 1, 1, 0, 0, 1, 1, 128, 300, true⟩ := by decide

/-- NOCMD runs the step the answer selects (X1 with A1). -/
theorem test_nocmd :
    (after .nocmd (hearing (.byte 0x06) (at_ .awaitAck 1 0 0 0 0 1 128 300))).map regs =
      some ⟨.sendBlock, 2, 0, 0, 1, 0, 1, 128, 300, true⟩ := by decide

/-! ### Transmit steps -/

/-- T5 (frame E8 on TX), with the offset of the last block. -/
theorem test_sendBlock_last :
    (after .sendBlock { answering .ok (at_ .sendBlock 3 0 0 2 0 2 256 300) with img := ramp 300 }).map
        (fun t => (regs t, txStream t)) =
      some (⟨.awaitAck, 3, 0, 0, 2, 0, 3, 300, 300, true⟩, frameE8) := by decide +kernel

/-- T7: the write fails after 5 bytes. -/
theorem test_sendBlock_fault :
    (after .sendBlock { answering (.fail 5 0) (at_ .sendBlock 1 0 0 0 0 0 0 300) with img := ramp 300 }).map
        (fun t => (regs t, txStream t, eventStream t, (frameInBuffer t).isSome)) =
      some (⟨.failed, 1, 0, 0, 0, 0, 0, 128, 300, true⟩, [0x01, 0x01, 0xFE, 0x00, 0x01], [.txFault], true) := by
  decide +kernel

/-- T8: the bytes of `FB` again. -/
theorem test_retry_resend :
    (after .retryResend { answering .ok (at_ .retry 1 1 0 0 1 1 128 300) with fb := memWrite [] 0 frameE7 }).map
        (fun t => (regs t, txStream t)) =
      some (⟨.awaitAck, 1, 1, 0, 0, 1, 2, 128, 300, true⟩, frameE7) := by decide +kernel

/-- T9 and T10: 10 failures are within the limit, 11 are not. -/
theorem test_retry_limit :
    (after .retryResend
        { answering .ok (at_ .retry 1 10 0 0 10 10 128 300) with fb := memWrite [] 0 frameE7 }).map regs =
      some ⟨.awaitAck, 1, 10, 0, 0, 10, 11, 128, 300, true⟩ ∧
    (after .retryFail (at_ .retry 1 11 0 0 11 11 128 300)).map (fun t => (regs t, txStream t)) =
      some (⟨.failed, 1, 11, 0, 0, 11, 11, 128, 300, true⟩, []) := by decide +kernel

/-- T12. -/
theorem test_sendEot :
    (after .sendEot (answering .ok (at_ .sendEot 4 0 0 3 0 3 300 300))).map (fun t => (regs t, txStream t)) =
      some (⟨.awaitEotAck, 4, 0, 0, 3, 0, 3, 300, 300, true⟩, [0x04]) := by decide

/-- T8 through the rows of what goes out: DATA is the re-send of the frame `FB` holds, EOT is SEND_EOT. -/
theorem test_data_and_eot :
    (after (.data 0x01 0xFE (0x41 :: List.replicate 127 0x1A) 0x27)
        { answering .ok (at_ .retry 1 1 0 0 1 1 1 1) with fb := memWrite [] 0 frameE7 }).map
        (fun t => (t.st, txStream t)) = some (.awaitAck, frameE7) ∧
    (after .eot (answering .ok (at_ .sendEot 4 0 0 3 0 3 300 300))).map (fun t => (t.st, txStream t)) =
      some (.awaitEotAck, [0x04]) := by decide +kernel

/-! ### The acknowledger -/

/-- A2, A3: the last block, and the wrap of `SEQ`. -/
theorem test_ack :
    (after .awaitAckAck (hearing (.byte 0x06) (at_ .awaitAck 3 0 0 2 0 3 300 300))).map
        (fun t => (regs t, progressStream t)) =
      some (⟨.sendEot, 4, 0, 0, 3, 0, 3, 300, 300, true⟩, [(3, 3, 0)]) ∧
    (after .awaitAckAck (hearing (.byte 0x06) (at_ .awaitAck 255 0 0 254 0 255 32640 40000))).map
        (fun t => (regs t, progressStream t)) =
      some (⟨.sendBlock, 0, 0, 0, 255, 0, 255, 32640, 40000, true⟩, [(255, 255, 0)]) := by decide

/-- A5. -/
theorem test_nak :
    (after .awaitAckNak (hearing (.byte 0x15) (at_ .awaitAck 1 0 0 0 0 1 128 300))).map
        (fun t => (regs t, progressStream t, eventStream t)) =
      some (⟨.retry, 1, 1, 0, 0, 1, 1, 128, 300, true⟩, [(1, 0, 1)], [.nak]) := by decide

/-- A6. -/
theorem test_timeout :
    (after .awaitAckTimeout (hearing .timeout (at_ .awaitAck 1 0 0 0 0 1 128 300))).map
        (fun t => (regs t, progressStream t, eventStream t)) =
      some (⟨.retry, 1, 1, 0, 0, 1, 1, 128, 300, true⟩, [(1, 0, 1)], [.timeout]) := by decide

/-- A7 with `RX 43`: no register changes and the window stays open. -/
theorem test_noise :
    (after (.awaitAckNoise 0x43) (hearing (.byte 0x43) (at_ .awaitAck 1 0 0 0 0 1 128 300))).map
        (fun t => (regs t, progressStream t, t.timer, t.rx)) =
      some (⟨.awaitAck, 1, 0, 0, 0, 0, 1, 128, 300, true⟩, [], some 10000, []) := by decide

/-- A12. -/
theorem test_final_ack :
    (after .awaitEotAckAck (hearing (.byte 0x06) (at_ .awaitEotAck 4 0 0 3 0 3 300 300))).map
        (fun t => (regs t, progressStream t, resultOut t)) =
      some (⟨.done, 4, 0, 0, 3, 0, 3, 300, 300, true⟩, [], true) := by decide

/-- A15: at the limit and past it. -/
theorem test_eot_nak :
    (after .awaitEotAckNak (hearing (.byte 0x15) (at_ .awaitEotAck 4 0 9 3 0 3 300 300))).map regs =
      some ⟨.sendEot, 4, 0, 10, 3, 0, 3, 300, 300, true⟩ ∧
    (after .awaitEotAckNak (hearing (.byte 0x15) (at_ .awaitEotAck 4 0 10 3 0 3 300 300))).map
        (fun t => (regs t, eventStream t)) =
      some (⟨.failed, 4, 0, 11, 3, 0, 3, 300, 300, true⟩, [.nak, .eotExhausted]) := by decide

/-- A14. -/
theorem test_eot_timeout :
    (after .awaitEotAckTimeout (hearing .timeout (at_ .awaitEotAck 4 0 0 3 0 3 300 300))).map regs =
      some ⟨.sendEot, 4, 0, 1, 3, 0, 3, 300, 300, true⟩ := by decide

/-- A16 with `RX 0D`. -/
theorem test_eot_noise :
    (after (.awaitEotAckNoise 0x0D) (hearing (.byte 0x0D) (at_ .awaitEotAck 4 0 0 3 0 3 300 300))).map regs =
      some ⟨.awaitEotAck, 4, 0, 0, 3, 0, 3, 300, 300, true⟩ := by decide

/-- A17, R62: nothing happens in a terminal state, and a response stays unread. -/
theorem test_terminal :
    (after .done (at_ .done 4 0 0 3 0 3 300 300)) = some (at_ .done 4 0 0 3 0 3 300 300) ∧
      (after .ack (hearing (.byte 0x06) (at_ .failed 1 11 0 0 11 11 128 300))) =
        some (hearing (.byte 0x06) (at_ .failed 1 11 0 0 11 11 128 300)) := by decide

/-- A1, A5, A7 through the rows of the response byte. -/
theorem test_response_rows :
    (after .ack (hearing (.byte 0x06) (at_ .awaitAck 1 0 0 0 0 1 128 300))).map regs =
      some ⟨.sendBlock, 2, 0, 0, 1, 0, 1, 128, 300, true⟩ ∧
    (after .nak (hearing (.byte 0x15) (at_ .awaitAck 1 0 0 0 0 1 128 300))).map regs =
      some ⟨.retry, 1, 1, 0, 0, 1, 1, 128, 300, true⟩ ∧
    (after (.noise 0x18) (hearing (.byte 0x18) (at_ .awaitAck 1 0 0 0 0 1 128 300))).map regs =
      some ⟨.awaitAck, 1, 0, 0, 0, 0, 1, 128, 300, true⟩ := by decide

/-! ### The pure functions -/

def result (i : Instr) : Option FuncResult := (after i State.reset).bind (·.fres)

/-- E1, E2. -/
theorem test_seqnext_cseq :
    result (.seqnext 255) = some (.byte 0) ∧ result (.seqnext 127) = some (.byte 128) ∧
      result (.cseq 0x01) = some (.byte 0xFE) ∧ result (.cseq 0x80) = some (.byte 0x7F) := by decide

/-- E4. -/
theorem test_padblk :
    result (.padblk [0x41]) = some (.bytes (0x41#8 :: List.replicate 127 0x1A#8)) := by decide +kernel

/-- E5: 128 times FF, and "Hello" padded. -/
theorem test_chk :
    result (.chk (List.replicate 128 0xFF)) = some (.byte 0x80) ∧
      result (.chk ([0x48, 0x65, 0x6C, 0x6C, 0x6F] ++ List.replicate 123 0x1A)) = some (.byte 0x72) := by
  decide +kernel

/-- E6. -/
theorem test_chunklen_nblocks :
    result (.chunklen 300 256) = some (.nat 44) ∧ result (.chunklen 300 0) = some (.nat 128) ∧
      result (.nblocks 300) = some (.nat 3) ∧ result (.nblocks 32641) = some (.nat 256) := by decide

/-- E7, E8. -/
theorem test_encode :
    result (.encode 1 [0x41]) = some (.bytes frameE7) ∧ result (.encode 3 chunkE8) = some (.bytes frameE8) := by
  decide +kernel

/-- V1, V2, V3, V4, V5. -/
theorem test_verify :
    result (.verify frameE7) = some (.bool true) ∧
      result (.verify (frameE7.set 131 0x28)) = some (.bool false) ∧
      result (.verify (frameE7.set 2 0xFF)) = some (.bool false) ∧
      result (.verify (frameE7.set 0 0x02)) = some (.bool false) ∧
      result (.verify (frameE7 ++ [0])) = some (.bool false) := by decide +kernel

/-- V8, V9. -/
theorem test_decode_verifyseq :
    result (.decode frameE8) = some (.seqPayload 3 (chunkE8 ++ List.replicate 84 0x1A)) ∧
      result (.verifyseq frameE7 1) = some (.bool true) ∧ result (.verifyseq frameE7 2) = some (.bool false) := by
  decide +kernel

/-! ### Fetching (log 11): after reset, the words of the table are each the next step's instruction -/

theorem test_fetch_commands_and_bytes :
    ([0b10, 0b01, 0b00, 0x04, 0x06, 0x15, 0x43].all fun w =>
      (nextOf (step (State.reset.withFetchWord 8 w))).isSome) = true := by decide

theorem test_fetch_steps :
    ([0x000, 0x200, 0x506, 0x515, 0x400, 0x543, 0x600, 0x800, 0xA00, 0xC00, 0xF06, 0xF15, 0xE00, 0xF43].all fun w =>
      (nextOf (step (State.reset.withFetchWord 16 w))).isSome) = true := by decide +kernel

/-! ### A session on the image of P2 (`L = 1`, `IMG = 41`), state by state, for the witnesses -/

/-- After `START L=1`. -/
def p2Ready : State :=
  { at_ .sendBlock 1 0 0 0 0 0 0 1 with img := [(0, 0x41)], trace := [.start 1], txAns := [.ok] }

/-- After `TX frame E7`. -/
def p2Waiting : State :=
  { at_ .awaitAck 1 0 0 0 0 1 1 1 with
    img := [(0, 0x41)], fb := memWrite [] 0 frameE7, trace := [.start 1, .txOk frameE7], rx := [.byte ACK] }

/-- After `NAK -> PROGRESS(1, 0, 1)`. -/
def p2Retry : State :=
  { at_ .retry 1 1 0 0 1 1 1 1 with
    img := [(0, 0x41)], fb := memWrite [] 0 frameE7, txAns := [.ok],
    trace := [.start 1, .txOk frameE7, .raised .nak, .progress 1 0 1] }

/-- After `PROGRESS(3, 1, 2)` and `TX 04`, its window open. -/
def p2EotWaiting : State :=
  { at_ .awaitEotAck 2 2 0 1 2 3 1 1 with
    img := [(0, 0x41)], fb := memWrite [] 0 frameE7, rx := [.byte ACK],
    trace := [.start 1, .txOk frameE7, .progress 1 0 1, .txOk frameE7, .progress 2 0 2, .txOk frameE7,
      .progress 3 1 2, .txOk [EOT]] }

theorem p2Ready_inv : SessionInv p2Ready := by
  constructor <;> decide +kernel

theorem p2Waiting_inv : SessionInv p2Waiting := by
  constructor <;> decide +kernel

theorem p2Retry_inv : SessionInv p2Retry := by
  constructor <;> decide +kernel

theorem p2EotWaiting_inv : SessionInv p2EotWaiting := by
  constructor <;> decide +kernel

theorem p2Waiting_counts : CountsInv p2Waiting := by
  constructor <;> first | exact p2Waiting_inv | decide +kernel

theorem p2EotWaiting_counts : CountsInv p2EotWaiting := by
  constructor <;> first | exact p2EotWaiting_inv | decide +kernel

theorem p2_covers : imageCovers p2Ready ∧ imageCovers p2Waiting := by
  unfold imageCovers; decide +kernel

/-! ### A witness for every statement with hypotheses; one for each clause -/

theorem witness_ResponseBytesDecodeByValue :
    ∀ b ∈ [0x00#8, 0x05#8, 0x07#8, 0x14#8, 0x16#8, 0xFF#8], b ≠ 0x06#8 ∧ b ≠ 0x15#8 := by decide

theorem witness_DispatchWordIsStRxvRxb :
    (windowOpen p2Waiting = true ∧ rxAnswer p2Waiting = .byte ACK) ∧
      (windowOpen (hearing .timeout p2EotWaiting) = true ∧ rxAnswer (hearing .timeout p2EotWaiting) = .timeout) ∧
      windowOpen p2Ready = false := by decide

theorem witness_DecodeOfEncodeIsTheInstruction :
    ∀ i ∈ [Instr.reset, .startRefused, .retryFail, .awaitAckNoise 0x00, .awaitEotAckNoise 0xFF, .noise 0x07,
        .data 0x01 0xFE (0x41 :: List.replicate 127 0x1A) 0x27, .eot],
      i.wellFormed = true ∧ i.format ≠ .func := by decide +kernel

theorem witness_StepRunsTheSelectedInstruction :
    (command (asked 0b10 0 p2Waiting)).word.getLsbD 1 = true ∧
      (command (asked 0b11 0 p2Waiting)).word.getLsbD 1 = true ∧
      ((command (asked 0b01 1 State.reset)).word = 0b01#2 ∧ (asked 0b01 1 State.reset).st = .awaitStart) ∧
      ((command (asked 0b01 1 p2Waiting)).word = 0b01#2 ∧ (asked 0b01 1 p2Waiting).st ≠ .awaitStart) ∧
      (command p2Waiting).word = 0b00#2 := by decide

theorem witness_PlacedWordIsExecutedByTheNextStep :
    decodeTableWord 8 0xFF = some (.noise 0xFF) ∧ decodeTableWord 16 0xFFF = some (.awaitEotAckNoise 0xFF) := by
  decide

theorem witness_ResetCommandRecreatesTheSession :
    (command (asked 0b11 0 p2EotWaiting)).word.getLsbD 1 = true := by decide

theorem witness_StartLatchesTheLength :
    ∀ L ∈ [0, 1, 300], (command (asked 0b01 L State.reset)).word = 0b01#2 ∧
      (asked 0b01 L State.reset).st = .awaitStart := by decide

theorem witness_StartElsewhereChangesNothing :
    (command (asked 0b01 5 p2Retry)).word = 0b01#2 ∧ (asked 0b01 5 p2Retry).st ≠ .awaitStart := by decide

theorem witness_NoCommandTakesTheSelectedStep :
    SessionInv p2Ready ∧ imageCovers p2Ready ∧ (command p2Ready).word = 0b00#2 :=
  ⟨p2Ready_inv, p2_covers.1, by decide⟩

theorem witness_SendBlockBuildsAndTransmitsTheFrame :
    p2Ready.st = .sendBlock ∧ p2Ready.len = 1 ∧
      imageRead p2Ready.len p2Ready.img p2Ready.off (min 128 (p2Ready.len - p2Ready.off)) = some [0x41#8] ∧ txAnswer p2Ready = .ok ∧
      txAnswer (answering (.fail 132 0) p2Ready) = .fail 132 0 := by decide

theorem witness_ReadOutsideTheImageIsRefused :
    let s := { p2Ready with img := [] }
    s.st = .sendBlock ∧ s.len = 1 ∧ imageRead s.len s.img s.off (min 128 (s.len - s.off)) = none := by decide

theorem witness_MemReadGivesTheImageBytesInOrder :
    0 + 1 ≤ 1 ∧ 1 + 0 ≤ 1 ∧ ∀ i, i < 1 → (memGet p2Ready.img i).isSome := by decide

theorem witness_RetryPastTheLimitFails :
    (at_ .retry 1 11 0 0 11 11 128 300).st = .retry ∧ (at_ .retry 1 11 0 0 11 11 128 300).err > 10 ∧
      (at_ .retry 1 11 0 0 11 11 128 300).cfg.maxRetry = 10 := by decide

theorem witness_RetryWithinTheLimitResendsTheBuffer :
    p2Retry.st = .retry ∧ p2Retry.err ≤ p2Retry.cfg.maxRetry ∧ frameE7.length = 132 ∧
      (∀ a, a < 132 → memGet p2Retry.fb a = frameE7[a]?) ∧ txAnswer p2Retry = .ok ∧
      txAnswer (answering (.fail 0 0) p2Retry) = .fail 0 0 := by decide +kernel

theorem witness_SendEotTransmitsOneByte :
    (at_ .sendEot 4 0 0 3 0 3 300 300).st = .sendEot ∧
      txAnswer (answering .ok (at_ .sendEot 4 0 0 3 0 3 300 300)) = .ok ∧
      txAnswer (answering (.fail 1 0) (at_ .sendEot 4 0 0 3 0 3 300 300)) = .fail 1 0 := by decide

theorem witness_PortOperationsHappenInPseudocodeOrder :
    (p2Ready.len = 1 ∧ imageRead p2Ready.len p2Ready.img p2Ready.off (min 128 (p2Ready.len - p2Ready.off)) = some [0x41#8] ∧
      ∀ a ∈ [TxAnswer.ok, .fail 0 0, .fail 132 0],
        txAnswer (answering a p2Ready) = a ∧ (after .sendBlock (answering a p2Ready)).isSome) ∧
    (memRead p2Retry.fb 0 132 = some frameE7 ∧ ∀ a ∈ [TxAnswer.ok, .fail 0 0, .fail 132 0],
        txAnswer (answering a p2Retry) = a ∧ (after .retryResend (answering a p2Retry)).isSome) ∧
    (∀ a ∈ [TxAnswer.ok, .fail 0 0, .fail 1 0],
      txAnswer (answering a (at_ .sendEot 4 0 0 3 0 3 300 300)) = a ∧
        (after .sendEot (answering a (at_ .sendEot 4 0 0 3 0 3 300 300))).isSome) ∧
    (after .retryFail (at_ .retry 1 11 0 0 11 11 128 300)).isSome ∧
    (after .awaitAckAck p2Waiting).isSome ∧
    (after .awaitAckNak (hearing (.byte NAK) p2Waiting)).isSome ∧
    (after .awaitAckTimeout (hearing .timeout p2Waiting)).isSome ∧
    (∀ b ∈ [0x00#8, 0xFF#8], (after (.awaitAckNoise b) (hearing (.byte b) p2Waiting)).isSome ∧
      (after (.awaitEotAckNoise b) (hearing (.byte b) p2EotWaiting)).isSome) ∧
    (after .awaitEotAckAck p2EotWaiting).isSome ∧
    (∀ eerr ∈ [9, 10],
      (after .awaitEotAckNak (hearing (.byte NAK) (at_ .awaitEotAck 4 0 eerr 3 0 3 300 300))).isSome ∧
      (after .awaitEotAckTimeout (hearing .timeout (at_ .awaitEotAck 4 0 eerr 3 0 3 300 300))).isSome) := by
  decide +kernel

theorem witness_AckAdvancesTheSession :
    (p2Waiting.st = .awaitAck ∧ rxAnswer p2Waiting = .byte 0x06#8 ∧ p2Waiting.len = 1 ∧ p2Waiting.off = 1) ∧
      (at_ .awaitAck 1 0 0 0 0 1 128 300).off ≠ 300 := by decide

theorem witness_NakAndTimeoutCountAFailedAttempt :
    p2Waiting.st = .awaitAck ∧ rxAnswer (hearing (.byte NAK) p2Waiting) = .byte 0x15#8 ∧
      rxAnswer (hearing .timeout p2Waiting) = .timeout := by decide

theorem witness_NoiseIsConsumedAndForgotten :
    ∀ b ∈ [0x00#8, 0x05#8, 0x07#8, 0x14#8, 0x16#8, 0xFF#8], b ≠ 0x06#8 ∧ b ≠ 0x15#8 ∧
      rxAnswer (hearing (.byte b) p2Waiting) = .byte b ∧ (hearing (.byte b) p2Waiting).st = .awaitAck ∧
      (hearing (.byte b) p2EotWaiting).st = .awaitEotAck := by decide

theorem witness_FinalAckEndsInDone :
    p2EotWaiting.st = .awaitEotAck ∧ rxAnswer p2EotWaiting = .byte 0x06#8 := by decide

theorem witness_FailedEotIsResentUntilTheLimit :
    (rxAnswer (hearing (.byte NAK) (at_ .awaitEotAck 4 0 9 3 0 3 300 300)) = .byte 0x15#8 ∧
      (at_ .awaitEotAck 4 0 9 3 0 3 300 300).eerr + 1 ≤ Cfg.default.eotMaxRetry) ∧
    (rxAnswer (hearing .timeout (at_ .awaitEotAck 4 0 10 3 0 3 300 300)) = .timeout ∧
      (at_ .awaitEotAck 4 0 10 3 0 3 300 300).eerr + 1 > Cfg.default.eotMaxRetry) := by decide

theorem witness_IdleAndTerminalStatesTakeNoStep :
    State.reset.st = .awaitStart ∧ (at_ .done 4 0 0 3 0 3 300 300).st = .done ∧
      (at_ .failed 1 11 0 0 11 11 128 300).st = .failed := by decide

theorem witness_ResponseTakesTheArmOfTheOpenWindow :
    (p2Waiting.st = .awaitAck ∧ rxAnswer p2Waiting = .byte 0x06#8 ∧
      rxAnswer (hearing (.byte 0x15) p2Waiting) = .byte 0x15#8 ∧
      rxAnswer (hearing (.byte 0x43) p2Waiting) = .byte 0x43#8) ∧
    (p2EotWaiting.st = .awaitEotAck ∧ rxAnswer p2EotWaiting = .byte 0x06#8 ∧
      rxAnswer (hearing (.byte 0x15) p2EotWaiting) = .byte 0x15#8 ∧
      rxAnswer (hearing (.byte 0xFF) p2EotWaiting) = .byte 0xFF#8) := by decide

theorem witness_ResponseOutsideAWindowStaysUnread :
    windowOpen p2Ready = false ∧ windowOpen p2Retry = false ∧ windowOpen State.reset = false := by decide

theorem witness_DataFrameIsEmittedBySendBlockOrRetry :
    (p2Ready.st = .sendBlock ∧ p2Ready.len = 1 ∧
      imageRead p2Ready.len p2Ready.img p2Ready.off (min 128 (p2Ready.len - p2Ready.off)) = some [0x41#8] ∧
      dataFrame 0x01 0xFE (0x41 :: List.replicate 127 0x1A) 0x27 = encodeFrame p2Ready.seq [0x41#8]) ∧
    (p2Retry.st = .retry ∧ p2Retry.err ≤ p2Retry.cfg.maxRetry ∧
      memRead p2Retry.fb 0 132 = some (dataFrame 0x01 0xFE (0x41 :: List.replicate 127 0x1A) 0x27)) ∧
    frameToEmit p2Retry ≠ some (dataFrame 0x02 0xFD (0x41 :: List.replicate 127 0x1A) 0x27) ∧
    (p2Waiting.st ≠ .sendBlock ∧ p2Waiting.st ≠ .retry) := by decide +kernel

theorem witness_EotByteIsEmittedBySendEot :
    (at_ .sendEot 4 0 0 3 0 3 300 300).st = .sendEot ∧ p2Ready.st ≠ .sendEot := by decide

theorem witness_PadblkFillsWith1A :
    ([] : List Byte).length ≤ 128 ∧ (List.replicate 128 0x41#8).length ≤ 128 := by decide +kernel

theorem witness_ChkIsTheSumMod256 : (List.replicate 128 0xFF#8).length = 128 := by decide +kernel

theorem witness_ChunklenAndNblocksValues : 0 ≤ 300 ∧ 300 ≤ 300 := by decide

theorem witness_EncodeBuildsTheFrame :
    ([] : List Byte).length ≤ 128 ∧ (List.replicate 128 0x41#8).length ≤ 128 := by decide +kernel

theorem witness_VerifyDecodeVerifyseqValues : verifyFrame frameE7 = true ∧ verifyFrame frameE8 = true := by
  decide +kernel

theorem witness_PureFunctionsTouchNoState :
    (Instr.nblocks 300).format = .func ∧ ∃ t, exec (.nblocks 300) p2Waiting = .next t :=
  ⟨by decide, next_of_isSome (by decide)⟩

theorem witness_PureFunctionsAreRefusedOutsideTheirTypes :
    (List.replicate 129 0#8).length > 128 ∧ (List.replicate 127 0#8).length ≠ 128 ∧ 301 > 300 ∧
      verifyFrame (frameE7.set 131 0x28) = false := by decide +kernel

theorem witness_EncoderAndVerifierAgree :
    ([] : List Byte).length ≤ 128 ∧ encodeFrame 1 [0x1A] = encodeFrame 1 [] ∧ verifyFrame frameE8 = true := by
  decide +kernel

theorem witness_ChecksumIsASum :
    [0x1A#8, 0x41#8].Perm [0x41#8, 0x1A#8] ∧ (List.replicate 128 0x41#8).length ≤ 128 := by decide +kernel

theorem witness_StepsWriteOnlyTheirRowOfTheMatrix :
    (command p2Waiting).word = 0b00#2 ∧ ∃ t, step p2Waiting = .next t :=
  ⟨by decide, next_of_isSome (by decide +kernel)⟩

theorem witness_StFollowsTheTransitionTable : ∃ t, step p2Retry = .next t := next_of_isSome (by decide +kernel)

theorem witness_UnselectedStepsAreRefused : DispatchRow.sendBlock ≠ selectedRow p2Waiting := by decide

theorem witness_TerminalStatesAreAbsorbing :
    ((at_ .done 4 0 0 3 0 3 300 300).st = .done ∧ (command (at_ .done 4 0 0 3 0 3 300 300)).word.getLsbD 1 = false) ∧
    ((asked 0b01 1 (at_ .failed 1 11 0 0 11 11 128 300)).st = .failed ∧
      (command (asked 0b01 1 (at_ .failed 1 11 0 0 11 11 128 300))).word.getLsbD 1 = false) := by decide

theorem witness_CountsNeverDecreaseBetweenResets :
    (command p2Waiting).word.getLsbD 1 = false ∧ ∃ t, step p2Waiting = .next t :=
  ⟨by decide, next_of_isSome (by decide +kernel)⟩

theorem witness_TheProtocolIsHalfDuplex :
    (∃ t, step p2Ready = .next t ∧ txStream t ≠ txStream p2Ready) ∧
      (windowOpen p2Waiting = true ∧ (command p2Waiting).word = 0b00#2 ∧ ∃ t, step p2Waiting = .next t) := by
  refine ⟨?_, by decide, by decide, next_of_isSome (by decide +kernel)⟩
  have h : (nextOf (step p2Ready)).any (fun t => decide (txStream t ≠ txStream p2Ready)) = true := by decide +kernel
  cases e : step p2Ready with
  | next t => rw [e] at h; exact ⟨t, rfl, of_decide_eq_true h⟩
  | fault f => rw [e] at h; cases h
  | refused r => rw [e] at h; cases h

theorem witness_NoInstructionWritesTheImageOrCfg : ∃ t, exec .sendBlock p2Ready = .next t :=
  next_of_isSome (by decide +kernel)

theorem witness_FrameBufferIsWrittenBySendBlockOnly :
    (∃ t, exec .retryResend p2Retry = .next t) ∧ Instr.retryResend ≠ .reset ∧ p2Retry.st ≠ .sendBlock :=
  ⟨next_of_isSome (by decide +kernel), by decide, by decide⟩

theorem witness_ProgressEventsRaiseOneCount : SessionInv p2Waiting ∧ ∃ t, step p2Waiting = .next t :=
  ⟨p2Waiting_inv, next_of_isSome (by decide +kernel)⟩

theorem witness_EveryStepKeepsTheSessionInvariant : SessionInv p2Retry ∧ ∃ t, step p2Retry = .next t :=
  ⟨p2Retry_inv, next_of_isSome (by decide +kernel)⟩

theorem witness_NoRunStopsOnAnImageTheHostOwes : SessionInv p2Ready ∧ imageCovers p2Ready :=
  ⟨p2Ready_inv, p2_covers.1⟩

theorem witness_ResentFrameIsTheOriginalFrame :
    SessionInv p2Retry ∧ p2Retry.st = .retry ∧ p2Retry.err ≤ p2Retry.cfg.maxRetry ∧ txAnswer p2Retry = .ok ∧
      ∃ t, exec .retryResend p2Retry = .next t :=
  ⟨p2Retry_inv, by decide, by decide, by decide, next_of_isSome (by decide +kernel)⟩

theorem witness_BlockKCarriesKMod256 :
    SessionInv p2Ready ∧ p2Ready.st = .sendBlock ∧ txAnswer p2Ready = .ok ∧
      ∃ t, exec .sendBlock p2Ready = .next t :=
  ⟨p2Ready_inv, by decide, by decide, next_of_isSome (by decide +kernel)⟩

theorem witness_EveryStepKeepsTxFramesAndEots :
    let s := { p2Retry with trace := .txFail frameE7 5 :: .raised .txFault :: .reset :: p2Retry.trace }
    SessionInv s ∧ OnlyFramesAndEots s ∧ ∃ t, step s = .next t := by
  refine ⟨by constructor <;> decide +kernel, fun X h => ?_, next_of_isSome (by decide +kernel)⟩
  have h' : X = frameE7 := by
    rcases h with h | ⟨k, h⟩
    · simpa [p2Retry] using h
    · simp only [p2Retry, List.mem_cons, PortOp.txFail.injEq, reduceCtorEq, List.not_mem_nil, or_false] at h
      exact h.1
  subst h'
  exact .inr (by decide +kernel)

theorem witness_EveryStepKeepsTheCounts : CountsInv p2Waiting ∧ ∃ t, step p2Waiting = .next t :=
  ⟨p2Waiting_counts, next_of_isSome (by decide +kernel)⟩

theorem witness_TransmissionsAreBounded :
    CountsInv p2Waiting ∧ CountsInv p2EotWaiting := ⟨p2Waiting_counts, p2EotWaiting_counts⟩

theorem witness_EveryDecidingStepComesCloserToTheEnd :
    SessionInv p2Waiting ∧ busy p2Waiting = true ∧ (command p2Waiting).word = 0b00#2 ∧
      decides (rxAnswer p2Waiting) = true ∧ ∃ t, step p2Waiting = .next t :=
  ⟨p2Waiting_inv, by decide, by decide, by decide, next_of_isSome (by decide +kernel)⟩

theorem witness_EverySessionEnds :
    let s := { p2EotWaiting with rx := .byte 0x43 :: List.replicate 21 .timeout }
    SessionInv s ∧ imageCovers s ∧ s.st ≠ .awaitStart ∧ s.cmds = [] ∧ stepsLeft s ≤ s.rx.countP decides := by
  refine ⟨?_, ?_, by decide, by decide, by decide⟩
  · constructor <;> decide +kernel
  · unfold imageCovers; decide +kernel

end Sys2Proof.Tests
end

section
/-! What reset leaves (R34): reads of the empty memory, the status outputs before START, and O10. -/
namespace Sys2Proof.Machine

@[simp] theorem memGet_nil (a : Nat) : memGet [] a = none := rfl

/-- Before START the three status outputs are 0 (R31), whatever the other registers hold. -/
theorem statusOutputs_of_awaitStart {s : State} (hst : s.st = .awaitStart) :
    busy s = false ∧ doneOut s = false ∧ resultOut s = false := by
  simp [busy, doneOut, resultOut, hst]

/-- Settles O10: the registers are R34's by the definition of the reset state, `FB` is the empty memory, and the
status outputs follow from `ST = AWAIT_START`. -/
theorem resetStateHoldsTheValuesOfR34 : Obligations.ResetStateHoldsTheValuesOfR34 := by
  have hfb : ∀ a, memGet State.reset.fb a = none := memGet_nil
  have hstatus := statusOutputs_of_awaitStart (s := State.reset) rfl
  exact ⟨rfl, rfl, rfl, rfl, rfl, rfl, rfl, rfl, rfl, hfb, rfl, hstatus⟩

end Sys2Proof.Machine
end

section
/-! The decoder of response bytes (R85, R86): one equation for each of its three classes, and O2. -/
namespace Sys2Proof.Machine

@[simp] theorem decodeResponse_ACK : decodeResponse ACK = .ack := rfl

@[simp] theorem decodeResponse_NAK : decodeResponse NAK = .nak := rfl

/-- R86: no third value has a meaning of its own, and the byte stays with the instruction. -/
theorem decodeResponse_of_ne {b : Byte} (hack : b ≠ ACK) (hnak : b ≠ NAK) : decodeResponse b = .noise b := by
  rw [decodeResponse, if_neg hack, if_neg hnak]

/-- Settles O2: the three equations of the decoder, with `ACK` and `NAK` at their values 0x06 and 0x15. -/
theorem responseBytesDecodeByValue : Obligations.ResponseBytesDecodeByValue :=
  ⟨decodeResponse_ACK, decodeResponse_NAK, fun _ => decodeResponse_of_ne⟩

end Sys2Proof.Machine
end

section
/-! What a row of the dispatch table leaves alone, said once over its outcomes (`RowStep`): the registers outside its
row of the write matrix (R35), the host's inputs, and outside a wait window RX and the progress port (R62). -/
namespace Sys2Proof.Machine

open Sys2Proof.Safety

/-- The registers outside a list, one by one. -/
theorem onlyWrites_iff (W : List Reg) (s t : State) :
    OnlyWrites W s t ↔
      (.ST ∉ W → t.st = s.st) ∧ (.SEQ ∉ W → t.seq = s.seq) ∧ (.ERR ∉ W → t.err = s.err) ∧
      (.EERR ∉ W → t.eerr = s.eerr) ∧ (.SUCC ∉ W → t.succ = s.succ) ∧ (.ERRTOT ∉ W → t.errtot = s.errtot) ∧
      (.TOTAL ∉ W → t.total = s.total) ∧ (.OFF ∉ W → t.off = s.off) ∧
      (.LEN ∉ W → t.lenHeld = s.lenHeld ∧ t.len = s.len) ∧ (.FB ∉ W → t.fb = s.fb) := by
  constructor
  · intro h
    have hreg : ∀ r, r ∉ W → regOf t r = regOf s r := h
    exact ⟨fun hr => RegVal.st.inj (hreg .ST hr), fun hr => RegVal.byte.inj (hreg .SEQ hr),
      fun hr => RegVal.nat.inj (hreg .ERR hr), fun hr => RegVal.nat.inj (hreg .EERR hr),
      fun hr => RegVal.nat.inj (hreg .SUCC hr), fun hr => RegVal.nat.inj (hreg .ERRTOT hr),
      fun hr => RegVal.nat.inj (hreg .TOTAL hr), fun hr => RegVal.nat.inj (hreg .OFF hr),
      fun hr => RegVal.len.inj (hreg .LEN hr), fun hr => RegVal.mem.inj (hreg .FB hr)⟩
  · rintro ⟨hst, hseq, herr, heerr, hsucc, herrtot, htotal, hoff, hlen, hfb⟩ r hr
    cases r with
    | ST => exact congrArg RegVal.st (hst hr)
    | SEQ => exact congrArg RegVal.byte (hseq hr)
    | ERR => exact congrArg RegVal.nat (herr hr)
    | EERR => exact congrArg RegVal.nat (heerr hr)
    | SUCC => exact congrArg RegVal.nat (hsucc hr)
    | ERRTOT => exact congrArg RegVal.nat (herrtot hr)
    | TOTAL => exact congrArg RegVal.nat (htotal hr)
    | OFF => exact congrArg RegVal.nat (hoff hr)
    | LEN => exact congrArg₂ RegVal.len (hlen hr).1 (hlen hr).2
    | FB => exact congrArg RegVal.mem (hfb hr)

/-- A row of the dispatch table writes no register outside its row of the write matrix (R35). -/
theorem RowStep.onlyWrites {s t : State} {r : DispatchRow} (h : RowStep s r t) : OnlyWrites (rowWrites r) s t := by
  cases h <;> simp [onlyWrites_iff, rowWrites]

/-- No row writes the configuration or the image: each outcome updates other fields (R32, R51). -/
theorem RowStep.hostInputsUnchanged {s t : State} {r : DispatchRow} (h : RowStep s r t) : HostInputsUnchanged s t := by
  cases h <;> exact ⟨rfl, fun _ => rfl⟩

/-- A step that writes neither `FB` nor the image leaves every byte as it was. -/
theorem memoryUnchanged_of_onlyWrites {W : List Reg} {s t : State} (hw : OnlyWrites W s t) (hfb : .FB ∉ W)
    (hin : HostInputsUnchanged s t) : MemoryUnchanged s t := by
  obtain ⟨-, -, -, -, -, -, -, -, -, hkeep⟩ := (onlyWrites_iff W s t).1 hw
  exact fun a => ⟨by rw [hkeep hfb], hin.2 a⟩

/-- Outside a wait window a row neither reads RX (R62) nor reports progress (R166): the rows that do either have a
window open. -/
theorem RowStep.rx_progress_of_windowClosed {s t : State} {r : DispatchRow} (h : RowStep s r t)
    (hw : windowOpen s = false) : t.rx = s.rx ∧ progressStream t = progressStream s := by
  cases h
  case awaitStart | done | failed => exact ⟨rfl, rfl⟩
  case sendOk | sendFail | retryFail | resendOk | resendFail | eotOk | eotFail =>
    exact ⟨rfl, by simp [progressStream, PortOp.progressTriple]⟩
  all_goals simp [windowOpen, *] at hw

end Sys2Proof.Machine
end

section
/-! The transmit steps (`41_transmit.md`): what `Transmit` shows on the streams, what each row that transmits stores
and opens with either answer of `TxWrite`, and O15, O19, O20; the two steps that use no port, O13 and O18. -/
namespace Sys2Proof.Machine

open Sys2Proof.Safety

/-! ### The streams after one `Transmit` -/

/-- A write answered `ok` and its flush, behind operations that show on neither stream: TX grows by all of `X` (R56),
no event occurs. -/
theorem streams_of_txOk {s t : State} {X : List Byte} (mem : List PortOp)
    (htx : mem.flatMap PortOp.txBytes = []) (hev : mem.filterMap PortOp.errorEvent = [])
    (h : t.trace = s.trace ++ (mem ++ [.txOk X, .txFlush])) :
    txStream t = txStream s ++ X ∧ eventStream t = eventStream s := by
  rw [txStream_append h, eventStream_append h, List.flatMap_append, List.filterMap_append, htx, hev]
  simp [PortOp.txBytes, PortOp.errorEvent]

/-- A write answered `fail`, behind operations that show on neither stream: TX grows by the first `k` bytes of `X` (U4), and
`E_TXFAULT` occurs (R133). -/
theorem streams_of_txFail {s t : State} {X : List Byte} {k : Nat} (mem : List PortOp)
    (htx : mem.flatMap PortOp.txBytes = []) (hev : mem.filterMap PortOp.errorEvent = [])
    (h : t.trace = s.trace ++ (mem ++ [.txFail X k, .raised .txFault])) :
    txStream t = txStream s ++ X.take k ∧ eventStream t = eventStream s ++ [.txFault] := by
  rw [txStream_append h, eventStream_append h, List.flatMap_append, List.filterMap_append, htx, hev]
  simp [PortOp.txBytes, List.filterMap_cons, PortOp.errorEvent]

/-! ### SEND_BLOCK (R132) -/

/-- A frame stored at the start of `FB` is bytes 0 to 131; every other address reads as before (R54). -/
theorem memGet_memWrite_frame (m : Memory) {F : List Byte} (hF : F.length = FRAME_LEN) (a : Nat) :
    memGet (memWrite m 0 F) a = if a < 132 then F[a]? else memGet m a := by
  rw [memGet_memWrite, hF]
  simp [FRAME_LEN]

/-- The frame SEND_BLOCK builds has 132 bytes: the chunk is no longer than a block. -/
theorem encodeFrame_length_of_imageRead {L off : Nat} {img : Memory} {c : List Byte} (seq : Byte)
    (h : imageRead L img off (chunkLen L off) = some c) : (encodeFrame seq c).length = FRAME_LEN := by
  unfold imageRead at h
  split at h
  · exact encodeFrame_length ((memRead_length h).trans_le (chunkLen_le L off))
  · cases h

/-- SEND_BLOCK answers a next state when the image gives the chunk. -/
theorem exec_sendBlock_next {s : State} {c : List Byte} (hst : s.st = .sendBlock)
    (hread : imageRead s.len s.img s.off (chunkLen s.len s.off) = some c) : ∃ t, exec .sendBlock s = .next t :=
  ⟨_, require_eq_next.2 ⟨hst, sendBlockEffect_eq_next.2 ⟨c, hread, rfl⟩⟩⟩

section SendBlock

variable {s t : State} {c : List Byte} (h : RowStep s .sendBlock t)
  (hread : imageRead s.len s.img s.off (chunkLen s.len s.off) = some c)
include h hread

/-- The load, its post-increment and the store happen whatever `TxWrite` answers (R132, R137). -/
theorem sendBlock_stores :
    t.off = s.off + chunkLen s.len s.off ∧ t.err = 0 ∧ t.fb = memWrite s.fb 0 (encodeFrame s.seq c) := by
  cases h with
  | sendOk c' st read tx =>
    cases hread.symm.trans read
    exact ⟨rfl, rfl, rfl⟩
  | sendFail c' k j st read tx =>
    cases hread.symm.trans read
    exact ⟨rfl, rfl, rfl⟩

theorem sendBlock_of_ok (ha : txAnswer s = .ok) :
    t.st = .awaitAck ∧ t.timer = some s.cfg.tAck ∧ t.total = s.total + 1 ∧
      txStream t = txStream s ++ encodeFrame s.seq c ∧ t.txPend = [] ∧ eventStream t = eventStream s := by
  cases h with
  | sendOk c' st read tx =>
    cases hread.symm.trans read
    exact ⟨rfl, rfl, rfl, And.imp_right (And.intro rfl) (streams_of_txOk [.memRead _ _, .memWrite _ _] rfl rfl rfl)⟩
  | sendFail c' k j st read tx => cases ha.symm.trans tx

theorem sendBlock_of_fail {k j : Nat} (ha : txAnswer s = .fail k j) :
    t.st = .failed ∧ t.timer = none ∧ t.total = s.total ∧
      txStream t = txStream s ++ (encodeFrame s.seq c).take k ∧ eventStream t = eventStream s ++ [.txFault] := by
  cases h with
  | sendOk c' st read tx => cases ha.symm.trans tx
  | sendFail c' k' j' st read tx =>
    cases hread.symm.trans read
    cases ha.symm.trans tx
    exact ⟨rfl, rfl, rfl, streams_of_txFail [.memRead _ _, .memWrite _ _] rfl rfl rfl⟩

end SendBlock

/-- Settles O15: the stores of SEND_BLOCK are the same on both answers of `TxWrite`; `ST`, the timer, `TOTAL` and the
streams are then read off for each answer. -/
theorem sendBlockBuildsAndTransmitsTheFrame : Obligations.SendBlockBuildsAndTransmitsTheFrame := by
  intro s c hst hread
  obtain ⟨t, ht⟩ := exec_sendBlock_next hst hread
  have hstep : RowStep s .sendBlock t := runRow_next ht
  obtain ⟨hoff, herr, hfb⟩ := sendBlock_stores hstep hread
  obtain ⟨hrx, hprogress⟩ := hstep.rx_progress_of_windowClosed (by simp [windowOpen, hst])
  have hframe := memGet_memWrite_frame s.fb (encodeFrame_length_of_imageRead s.seq hread)
  refine ⟨t, ht, hoff, herr, hfb ▸ hframe, hstep.onlyWrites, hrx, hprogress, hstep.hostInputsUnchanged, ?_, ?_⟩
  · intro ha
    obtain ⟨hst', htimer, htotal, hstreams⟩ := sendBlock_of_ok hstep hread ha
    exact ⟨hst', htimer, htotal, by simp [busy, hst'], hstreams⟩
  · intro k j ha
    obtain ⟨hst', htimer, htotal, hstreams⟩ := sendBlock_of_fail hstep hread ha
    exact ⟨hst', htimer, htotal, by simp [busy, hst'], hstreams⟩

/-! ### RETRY.RESEND (R135) -/

/-- `FB` holds the frame `F` when its bytes 0 to 131 are `F`'s. -/
theorem frameInBuffer_eq_some {s : State} {F : List Byte} (hlen : F.length = FRAME_LEN)
    (hbytes : ∀ a, a < FRAME_LEN → memGet s.fb a = F[a]?) : frameInBuffer s = some F :=
  (memRead_eq_some _ _ _ _).2 ⟨hlen, fun i hi => by rw [Nat.zero_add]; exact hbytes i hi⟩

/-- RETRY.RESEND answers a next state when `FB` holds a frame. -/
theorem exec_retryResend_next {s : State} {F : List Byte} (hst : s.st = .retry) (herr : s.err ≤ s.cfg.maxRetry)
    (hF : frameInBuffer s = some F) : ∃ t, exec .retryResend s = .next t :=
  ⟨_, require_eq_next.2 ⟨⟨hst, herr⟩, resendEffect_eq_next.2 ⟨F, hF, rfl⟩⟩⟩

section Resend

variable {s t : State} {F : List Byte} (h : RowStep s .retryResend t) (hF : frameInBuffer s = some F)
include h hF

theorem resend_of_ok (ha : txAnswer s = .ok) :
    t.st = .awaitAck ∧ t.timer = some s.cfg.tAck ∧ t.total = s.total + 1 ∧
      txStream t = txStream s ++ F ∧ t.txPend = [] ∧ eventStream t = eventStream s := by
  cases h with
  | resendOk F' st err fb tx =>
    cases hF.symm.trans fb
    exact ⟨rfl, rfl, rfl, And.imp_right (And.intro rfl) (streams_of_txOk [] rfl rfl rfl)⟩
  | resendFail F' k j st err fb tx => cases ha.symm.trans tx

theorem resend_of_fail {k j : Nat} (ha : txAnswer s = .fail k j) :
    t.st = .failed ∧ t.timer = none ∧ t.total = s.total ∧
      txStream t = txStream s ++ F.take k ∧ eventStream t = eventStream s ++ [.txFault] := by
  cases h with
  | resendOk F' st err fb tx => cases ha.symm.trans tx
  | resendFail F' k' j' st err fb tx =>
    cases hF.symm.trans fb
    cases ha.symm.trans tx
    exact ⟨rfl, rfl, rfl, streams_of_txFail [] rfl rfl rfl⟩

end Resend

/-- Settles O19: RETRY.RESEND reads the frame `F` out of `FB` and transmits that; it writes neither memory. -/
theorem retryWithinTheLimitResendsTheBuffer : Obligations.RetryWithinTheLimitResendsTheBuffer := by
  intro s F hst herr hlen hbytes
  have hF : frameInBuffer s = some F := frameInBuffer_eq_some hlen hbytes
  obtain ⟨t, ht⟩ := exec_retryResend_next hst herr hF
  have hstep : RowStep s .retryResend t := runRow_next ht
  obtain ⟨hrx, hprogress⟩ := hstep.rx_progress_of_windowClosed (by simp [windowOpen, hst])
  have hinputs := hstep.hostInputsUnchanged
  have hmem := memoryUnchanged_of_onlyWrites hstep.onlyWrites (by decide) hinputs
  exact ⟨t, ht, hstep.onlyWrites, hmem, hrx, hprogress, hinputs, resend_of_ok hstep hF,
    fun _ _ => resend_of_fail hstep hF⟩

/-! ### SEND_EOT (R136) -/

section SendEot

variable {s t : State} (h : RowStep s .sendEot t)
include h

theorem sendEot_of_ok (ha : txAnswer s = .ok) :
    t.st = .awaitEotAck ∧ t.timer = some s.cfg.tEot ∧ txStream t = txStream s ++ [EOT] ∧ t.txPend = [] ∧
      eventStream t = eventStream s := by
  cases h with
  | eotOk st tx =>
    exact ⟨rfl, rfl, And.imp_right (And.intro rfl) (streams_of_txOk [] rfl rfl rfl)⟩
  | eotFail k j st tx => cases ha.symm.trans tx

theorem sendEot_of_fail {k j : Nat} (ha : txAnswer s = .fail k j) :
    t.st = .failed ∧ t.timer = none ∧
      txStream t = txStream s ++ [EOT].take k ∧ eventStream t = eventStream s ++ [.txFault] := by
  cases h with
  | eotOk st tx => cases ha.symm.trans tx
  | eotFail k' j' st tx =>
    cases ha.symm.trans tx
    exact ⟨rfl, rfl, streams_of_txFail [] rfl rfl rfl⟩

end SendEot

/-- Settles O20: in `SEND_EOT` the step transmits the one byte `EOT`, 0x04, and writes `ST` only. -/
theorem sendEotTransmitsOneByte : Obligations.SendEotTransmitsOneByte := by
  intro s hst
  have ht : exec .sendEot s = .next (sendEotEffect s) := require_pos hst
  have hstep : RowStep s .sendEot (sendEotEffect s) := runRow_next ht
  obtain ⟨hrx, hprogress⟩ := hstep.rx_progress_of_windowClosed (by simp [windowOpen, hst])
  have hinputs := hstep.hostInputsUnchanged
  have hmem := memoryUnchanged_of_onlyWrites hstep.onlyWrites (by decide) hinputs
  exact ⟨_, ht, hstep.onlyWrites, hmem, hrx, hprogress, hinputs, sendEot_of_ok hstep,
    fun _ _ => sendEot_of_fail hstep⟩

/-! ### Steps that use no port: RETRY.FAIL (R134) and START refused (R131) -/

/-- Settles O18: past the limit RETRY.FAIL raises the fatal event, which writes `ST` only (R199); the record grows by
that event, which is no byte on TX and no progress. -/
theorem retryPastTheLimitFails : Obligations.RetryPastTheLimitFails := by
  intro s hst herr
  have ht : exec .retryFail s = .next (raiseFatal .retryExhausted s) := require_pos ⟨hst, herr⟩
  have hstep : RowStep s .retryFail (raiseFatal .retryExhausted s) := runRow_next ht
  have htrace := raiseFatal_trace s .retryExhausted
  have htx : txStream (raiseFatal .retryExhausted s) = txStream s := by
    rw [txStream_append htrace]; exact List.append_nil _
  obtain ⟨hrx, hprogress⟩ := hstep.rx_progress_of_windowClosed (by simp [windowOpen, hst])
  exact ⟨_, ht, rfl, hstep.onlyWrites, rfl, rfl, rfl, rfl, ⟨htx, rfl, rfl, hrx, hprogress⟩,
    eventStream_append htrace, hstep.hostInputsUnchanged⟩

/-- Settles O13: the refused START answers the state with its sample spent, and a sample is no register, timer or
port. -/
theorem startElsewhereChangesNothing : Obligations.StartElsewhereChangesNothing := by
  intro s hword hst
  have ht : exec .startRefused s = .next (popCommand s) := require_pos ⟨hword, hst⟩
  have hwrites : OnlyWrites [] s (popCommand s) := by simp [onlyWrites_iff]
  exact ⟨_, ht, hwrites, rfl, ⟨rfl, rfl, rfl, rfl, rfl⟩, rfl, rfl, fun _ => rfl⟩

end Sys2Proof.Machine
end

section
/-! The acknowledger (`42_acknowledger.md`): what every step of a wait window does to the ports, what each effect adds
to the record, and O22 to O26. -/
namespace Sys2Proof.Machine

open Sys2Proof.Safety

/-! ### Every step of a wait window -/

/-- While a window is open a row consumes one answer of `RxRead` (R58) and touches neither TX (R62) nor memory nor the
host's inputs. -/
theorem RowStep.frame_of_windowOpen {s t : State} {r : DispatchRow} (h : RowStep s r t)
    (hw : windowOpen s = true) :
    MemoryUnchanged s t ∧ t.rx = s.rx.tail ∧ txStream t = txStream s ∧ t.txPend = s.txPend ∧
      HostInputsUnchanged s t := by
  have hinputs := h.hostInputsUnchanged
  cases h
  case ackMore | ackLast | nak | timeout | noise | finalAck | eotNak | eotNakLast | eotTimeout | eotTimeoutLast
      | eotNoise =>
    exact ⟨fun _ => ⟨rfl, rfl⟩, rfl, by simp [txStream, PortOp.txBytes], rfl, hinputs⟩
  all_goals simp [windowOpen, *] at hw

/-- A step that closes the window disarms the wait timer (R207). -/
theorem RowStep.timer_of_windowCloses {s t : State} {r : DispatchRow} (h : RowStep s r t)
    (hopen : windowOpen s = true) (hclosed : windowOpen t = false) : t.timer = none := by
  cases h
  case ackMore | ackLast | nak | timeout | finalAck | eotNak | eotNakLast | eotTimeout | eotTimeoutLast => rfl
  case noise | eotNoise => exact absurd (hopen.symm.trans hclosed) (by decide)
  all_goals simp [windowOpen, *] at hopen

/-- No step of the `EOT` window reports progress (R157, R158). -/
theorem RowStep.progress_of_awaitEotAck {s t : State} {r : DispatchRow} (h : RowStep s r t)
    (hst : s.st = .awaitEotAck) : progressStream t = progressStream s := by
  cases h
  case finalAck | eotNak | eotNakLast | eotTimeout | eotTimeoutLast | eotNoise =>
    simp [progressStream, List.filterMap_cons, PortOp.progressTriple]
  all_goals simp [*] at hst

/-! ### `ACK` of a data block (R151) -/

theorem ackBlockEffect_trace (s : State) :
    (ackBlockEffect s).trace =
      s.trace ++ [.rxRead (rxAnswer s), .progress s.total (s.succ + 1) s.errtot] := by
  simp [ackBlockEffect, progressEvent]

/-- After an `ACK` the session goes on, with the window closed: the next block, or the `EOT` (R151). -/
theorem ackBlockEffect_busy (s : State) :
    busy (ackBlockEffect s) = true ∧ windowOpen (ackBlockEffect s) = false := by
  rcases ackBlockEffect_cases s with ⟨-, ht⟩ | ⟨-, ht⟩ <;> rw [ht] <;> exact ⟨rfl, rfl⟩

/-- Settles O22: the effect of the `ACK` arm, read off field by field; the streams come from its two entries in the
record. -/
theorem ackAdvancesTheSession : Obligations.AckAdvancesTheSession := by
  intro s hst hrx
  have ht : exec .awaitAckAck s = .next (ackBlockEffect s) := require_pos ⟨hst, hrx⟩
  have hstep : RowStep s .awaitAckAck (ackBlockEffect s) := runRow_next ht
  have hopen : windowOpen s = true := by simp [windowOpen, hst]
  have hprogress := progressStream_append (ackBlockEffect_trace s)
  have hevents : eventStream (ackBlockEffect s) = eventStream s ++ [] := eventStream_append (ackBlockEffect_trace s)
  obtain ⟨hbusy, hclosed⟩ := ackBlockEffect_busy s
  obtain ⟨hmem, hrx', htx, hpend, hinputs⟩ := hstep.frame_of_windowOpen hopen
  exact ⟨_, ht, seqNext_toNat s.seq, rfl, rfl, hprogress, hstep.onlyWrites, hmem, hbusy,
    hstep.timer_of_windowCloses hopen hclosed, hrx', htx, hpend, hevents.trans (List.append_nil _), hinputs⟩

/-! ### A failed attempt of a data block (R152, R153) -/

theorem failedAttemptEffect_trace (e : ErrorEvent) (s : State) :
    (failedAttemptEffect e s).trace =
      s.trace ++ [.rxRead (rxAnswer s), .raised e, .progress s.total s.succ (s.errtot + 1)] := by
  simp [failedAttemptEffect, progressEvent]

/-- `NAK` and timeout of a data window are two rows of one effect and one row of the write matrix. -/
theorem exec_failedAttempt {s : State} {i : Instr} {a : RxAnswer} {e : ErrorEvent}
    (hi : (i, a, e) = (.awaitAckNak, .byte NAK, .nak) ∨ (i, a, e) = (.awaitAckTimeout, .timeout, .timeout))
    (hst : s.st = .awaitAck) (hrx : rxAnswer s = a) :
    exec i s = .next (failedAttemptEffect e s) ∧
      ∃ r, RowStep s r (failedAttemptEffect e s) ∧ rowWrites r = [.ST, .ERR, .ERRTOT] := by
  rcases hi with h | h <;> cases h
  · have ht : exec .awaitAckNak s = .next (failedAttemptEffect .nak s) := require_pos ⟨hst, hrx⟩
    exact ⟨ht, .awaitAckNak, runRow_next ht, rfl⟩
  · have ht : exec .awaitAckTimeout s = .next (failedAttemptEffect .timeout s) := require_pos ⟨hst, hrx⟩
    exact ⟨ht, .awaitAckTimeout, runRow_next ht, rfl⟩

/-- Settles O23: both rows have the effect of a failed attempt, each with its own event in the record. -/
theorem nakAndTimeoutCountAFailedAttempt : Obligations.NakAndTimeoutCountAFailedAttempt := by
  intro s i a e hi hst hrx
  obtain ⟨ht, r, hstep, hrow⟩ := exec_failedAttempt hi hst hrx
  have hopen : windowOpen s = true := by simp [windowOpen, hst]
  have hprogress := progressStream_append (failedAttemptEffect_trace e s)
  have hevents := eventStream_append (failedAttemptEffect_trace e s)
  obtain ⟨hmem, hrx', htx, hpend, hinputs⟩ := hstep.frame_of_windowOpen hopen
  exact ⟨_, ht, rfl, rfl, rfl, hprogress, hevents, hrow ▸ hstep.onlyWrites, hmem, rfl, rfl, hrx', htx, hpend,
    hinputs⟩

/-! ### A noise byte (R154, R160) -/

theorem isNoise_iff {b : Byte} : isNoise b = true ↔ b ≠ ACK ∧ b ≠ NAK := by
  simp [isNoise]

theorem noiseEffect_trace (s : State) :
    (noiseEffect s).trace = s.trace ++ [.rxRead (rxAnswer s), .raised .noise] := by
  simp [noiseEffect]

/-- The noise arms of the two windows are two rows of one effect, and neither writes a register. -/
theorem exec_noise {s : State} {i : Instr} {b : Byte} (hb : isNoise b = true) (hrx : rxAnswer s = .byte b)
    (hi : (i = .awaitAckNoise b ∧ s.st = .awaitAck) ∨ (i = .awaitEotAckNoise b ∧ s.st = .awaitEotAck)) :
    exec i s = .next (noiseEffect s) ∧ ∃ r, RowStep s r (noiseEffect s) ∧ rowWrites r = [] := by
  rcases hi with ⟨rfl, hst⟩ | ⟨rfl, hst⟩
  · have ht : exec (.awaitAckNoise b) s = .next (noiseEffect s) := require_pos ⟨hst, hrx, hb⟩
    exact ⟨ht, .awaitAckNoise b, runRow_next ht, rfl⟩
  · have ht : exec (.awaitEotAckNoise b) s = .next (noiseEffect s) := require_pos ⟨hst, hrx, hb⟩
    exact ⟨ht, .awaitEotAckNoise b, runRow_next ht, rfl⟩

/-- Settles O24: in either window the noise arm consumes the byte and raises `E_NOISE`, and its row of the write matrix
is empty. -/
theorem noiseIsConsumedAndForgotten : Obligations.NoiseIsConsumedAndForgotten := by
  intro s i b hack hnak hrx hi
  obtain ⟨ht, r, hstep, hrow⟩ := exec_noise (isNoise_iff.2 ⟨hack, hnak⟩) hrx hi
  have hopen : windowOpen s = true := by
    rcases hi with ⟨-, hst⟩ | ⟨-, hst⟩ <;> simp [windowOpen, hst]
  have hprogress : progressStream (noiseEffect s) = progressStream s ++ [] :=
    progressStream_append (noiseEffect_trace s)
  have hevents := eventStream_append (noiseEffect_trace s)
  obtain ⟨hmem, hrx', htx, hpend, hinputs⟩ := hstep.frame_of_windowOpen hopen
  exact ⟨_, ht, hrow ▸ hstep.onlyWrites, hmem, rfl, hrx', htx, hpend, hprogress.trans (List.append_nil _), hevents,
    hinputs⟩

/-! ### The final `ACK` (R157) -/

/-- Settles O25: the arm reads the `ACK` and moves `ST` to `DONE`; the read is neither progress nor an event. -/
theorem finalAckEndsInDone : Obligations.FinalAckEndsInDone := by
  intro s hst hrx
  have ht : exec .awaitEotAckAck s = .next (finalAckEffect s) := require_pos ⟨hst, hrx⟩
  have hstep : RowStep s .awaitEotAckAck (finalAckEffect s) := runRow_next ht
  have htrace : (finalAckEffect s).trace = s.trace ++ [.rxRead (rxAnswer s)] := rfl
  have hevents : eventStream (finalAckEffect s) = eventStream s ++ [] := eventStream_append htrace
  obtain ⟨hmem, hrx', htx, hpend, hinputs⟩ := hstep.frame_of_windowOpen (by simp [windowOpen, hst])
  exact ⟨_, ht, rfl, hstep.onlyWrites, hmem, rfl, rfl, rfl, rfl, hrx', htx, hpend,
    hstep.progress_of_awaitEotAck hst, hevents.trans (List.append_nil _), hinputs⟩

/-! ### A failed `EOT` attempt (R158, R159) -/

@[simp] theorem failedEotEffect_eerr (e : ErrorEvent) (s : State) : (failedEotEffect e s).eerr = s.eerr + 1 := by
  rcases failedEotEffect_cases e s with ⟨-, ht⟩ | ⟨-, ht⟩ <;> rw [ht] <;> rfl

/-- Within the limit the `EOT` is sent again (R158). -/
theorem failedEotEffect_within {s : State} {e : ErrorEvent} (h : s.eerr + 1 ≤ s.cfg.eotMaxRetry) :
    (failedEotEffect e s).st = .sendEot ∧
      (failedEotEffect e s).trace = s.trace ++ [.rxRead (rxAnswer s), .raised e] := by
  rcases failedEotEffect_cases e s with ⟨hpast, -⟩ | ⟨-, ht⟩
  · omega
  · rw [ht]; simp

/-- Past the limit the session fails, the fatal event after the one of the attempt (R158, R198). -/
theorem failedEotEffect_past {s : State} {e : ErrorEvent} (h : s.eerr + 1 > s.cfg.eotMaxRetry) :
    (failedEotEffect e s).st = .failed ∧
      (failedEotEffect e s).trace =
        s.trace ++ [.rxRead (rxAnswer s), .raised e, .raised .eotExhausted] := by
  rcases failedEotEffect_cases e s with ⟨-, ht⟩ | ⟨hwithin, -⟩
  · rw [ht]; simp
  · omega

/-- On either side of the limit a failed attempt closes the `EOT` window. -/
theorem failedEotEffect_windowOpen (e : ErrorEvent) (s : State) : windowOpen (failedEotEffect e s) = false := by
  rcases failedEotEffect_cases e s with ⟨-, ht⟩ | ⟨-, ht⟩ <;> rw [ht] <;> rfl

/-- `NAK` and timeout of an `EOT` window are two rows of one effect and one row of the write matrix. -/
theorem exec_failedEot {s : State} {i : Instr} {a : RxAnswer} {e : ErrorEvent}
    (hi : (i, a, e) = (.awaitEotAckNak, .byte NAK, .nak) ∨ (i, a, e) = (.awaitEotAckTimeout, .timeout, .timeout))
    (hst : s.st = .awaitEotAck) (hrx : rxAnswer s = a) :
    exec i s = .next (failedEotEffect e s) ∧
      ∃ r, RowStep s r (failedEotEffect e s) ∧ rowWrites r = [.ST, .EERR] := by
  rcases hi with h | h <;> cases h
  · have ht : exec .awaitEotAckNak s = .next (failedEotEffect .nak s) := require_pos ⟨hst, hrx⟩
    exact ⟨ht, .awaitEotAckNak, runRow_next ht, rfl⟩
  · have ht : exec .awaitEotAckTimeout s = .next (failedEotEffect .timeout s) := require_pos ⟨hst, hrx⟩
    exact ⟨ht, .awaitEotAckTimeout, runRow_next ht, rfl⟩

/-- Settles O26: both rows have the effect of a failed `EOT` attempt; the limit decides `ST`, the status outputs and the
fatal event, and nothing else. -/
theorem failedEotIsResentUntilTheLimit : Obligations.FailedEotIsResentUntilTheLimit := by
  intro s i a e hi hst hrx
  obtain ⟨ht, r, hstep, hrow⟩ := exec_failedEot hi hst hrx
  have hopen : windowOpen s = true := by simp [windowOpen, hst]
  have htimer := hstep.timer_of_windowCloses hopen (failedEotEffect_windowOpen e s)
  obtain ⟨hmem, hrx', htx, hpend, hinputs⟩ := hstep.frame_of_windowOpen hopen
  refine ⟨_, ht, failedEotEffect_eerr e s, hrow ▸ hstep.onlyWrites, hmem, htimer, hrx', htx, hpend,
    hstep.progress_of_awaitEotAck hst, hinputs, ?_, ?_⟩
  · intro hlimit
    obtain ⟨hst', htrace⟩ := failedEotEffect_within (e := e) hlimit
    exact ⟨hst', by simp [busy, hst'], eventStream_append htrace⟩
  · intro hlimit
    obtain ⟨hst', htrace⟩ := failedEotEffect_past (e := e) hlimit
    exact ⟨hst', by simp [busy, hst'], by simp [doneOut, hst'], by simp [resultOut, hst'],
      eventStream_append htrace⟩

end Sys2Proof.Machine
end

section
/-! RESET (`70_reset_and_hazards.md`): what its one entry adds to the streams, and O11. -/
namespace Sys2Proof.Machine

open Sys2Proof.Safety

theorem resetEffect_trace (s : State) : (resetEffect s).trace = s.trace ++ [.reset] := rfl

/-- The entry of RESET is no byte on TX, no progress and no event, so the three streams stand as they were (R220). -/
theorem streams_of_reset (s : State) :
    txStream (resetEffect s) = txStream s ∧ progressStream (resetEffect s) = progressStream s ∧
      eventStream (resetEffect s) = eventStream s := by
  have htrace := resetEffect_trace s
  have htx : txStream (resetEffect s) = txStream s ++ [] := txStream_append htrace
  have hprogress : progressStream (resetEffect s) = progressStream s ++ [] := progressStream_append htrace
  have hevents : eventStream (resetEffect s) = eventStream s ++ [] := eventStream_append htrace
  exact ⟨htx.trans (List.append_nil _), hprogress.trans (List.append_nil _), hevents.trans (List.append_nil _)⟩

/-- Settles O11: the registers are set to R34's values, `FB` is the empty memory, the timer and the status outputs
follow from `ST = AWAIT_START`, and the streams from the record's one entry; the spent sample is none of these. -/
theorem resetCommandRecreatesTheSession : Obligations.ResetCommandRecreatesTheSession := by
  intro s hword
  have ht : exec .reset s = .next (resetEffect (popCommand s)) := require_pos hword
  obtain ⟨hbusy, hdone, hresult⟩ := statusOutputs_of_awaitStart (s := resetEffect (popCommand s)) rfl
  obtain ⟨htx, hprogress, hevents⟩ := streams_of_reset (popCommand s)
  have hquiet : PortsQuiet s (resetEffect (popCommand s)) := ⟨htx, rfl, rfl, rfl, hprogress⟩
  have hinputs : HostInputsUnchanged s (resetEffect (popCommand s)) := ⟨rfl, fun _ => rfl⟩
  exact ⟨_, ht, rfl, rfl, rfl, rfl, rfl, rfl, rfl, rfl, rfl, memGet_nil, rfl, hbusy, hdone, hresult, hquiet, hevents,
    hinputs⟩

end Sys2Proof.Machine
end

section
/-! The encodings (`30_encoding.md`): how an equality or a mask of a dispatch word reads field by field, the decoder on
what the encoder writes, and O1, O3 to O6. -/
namespace Sys2Proof.Machine

/-! ### State codes (R21) -/

theorem code_ofCode : ∀ c : BitVec 3, (St.ofCode c).code = c := by decide

/-- Settles O1: the codes are the definition's, and each of the two readings undoes the other. -/
theorem stateCodesAreTheTableOfR21 : Obligations.StateCodesAreTheTableOfR21 :=
  ⟨rfl, rfl, rfl, rfl, rfl, rfl, rfl, rfl, ofCode_code, code_ofCode⟩

/-! ### The dispatch word (R90) -/

/-- The word is its three fields: all 4096 words are dispatch words. -/
theorem dispatchWordOf_fields (d : BitVec 12) :
    dispatchWordOf (dispatchSt d) (dispatchRxv d) (dispatchRxb d) = d := by
  apply BitVec.eq_of_getLsbD_eq
  intro i hi
  simp only [dispatchWordOf, dispatchSt, dispatchRxv, dispatchRxb, code_ofCode, BitVec.getLsbD_append,
    BitVec.getLsbD_extractLsb', BitVec.getLsbD_ofBool]
  by_cases h8 : i < 8
  · simp [h8]
  · by_cases h9 : i = 8
    · simp [h9]
    · simp [h8, show ¬ i - 8 < 1 by omega, show i - 8 - 1 < 3 by omega, show 9 + (i - 8 - 1) = i by omega]

/-- The word of a state in which no window is open carries no answer (R90). -/
theorem dispatchWord_of_windowClosed {s : State} (hw : windowOpen s = false) :
    dispatchWord s = dispatchWordOf s.st false 0#8 := by
  simp [dispatchWord, hw]

/-- The word of an open window on which a byte has arrived (R90). -/
theorem dispatchWord_of_byte {s : State} {b : Byte} (hw : windowOpen s = true) (hrx : rxAnswer s = .byte b) :
    dispatchWord s = dispatchWordOf s.st true b := by
  simp [dispatchWord, hw, hrx]

/-- The word of an open window whose deadline has passed (R90). -/
theorem dispatchWord_of_timeout {s : State} (hw : windowOpen s = true) (hrx : rxAnswer s = .timeout) :
    dispatchWord s = dispatchWordOf s.st false 0#8 := by
  simp [dispatchWord, hw, hrx]

/-- Whatever the answer, the word's state field is `ST`. -/
theorem dispatchSt_dispatchWord (s : State) : dispatchSt (dispatchWord s) = s.st := by
  cases hw : windowOpen s with
  | false => rw [dispatchWord_of_windowClosed hw, dispatchSt_wordOf]
  | true =>
    cases hrx : rxAnswer s with
    | byte b => rw [dispatchWord_of_byte hw hrx, dispatchSt_wordOf]
    | timeout => rw [dispatchWord_of_timeout hw hrx, dispatchSt_wordOf]

/-- Settles O3: the three cases of the word, each with its fields read back. -/
theorem dispatchWordIsStRxvRxb : Obligations.DispatchWordIsStRxvRxb := by
  intro s
  refine ⟨?_, fun hw b hrx => ?_, fun hw hrx => ?_, fun hw => ?_⟩
  · rw [← dispatchSt_dispatchWord s, dispatchSt, code_ofCode]
  · rw [dispatchWord_of_byte hw hrx]
    exact ⟨dispatchRxv_wordOf _ _ _, dispatchRxb_wordOf _ _ _⟩
  · rw [dispatchWord_of_timeout hw hrx]
    exact ⟨dispatchRxv_wordOf _ _ _, dispatchRxb_wordOf _ _ _⟩
  · rw [dispatchWord_of_windowClosed hw]
    exact ⟨dispatchRxv_wordOf _ _ _, dispatchRxb_wordOf _ _ _⟩

/-! ### The table of R91 against the decoder by fields -/

/-- Two dispatch words are equal when their fields are. -/
theorem dispatchWordOf_inj {st st' : St} {v v' : Bool} {b b' : Byte} :
    dispatchWordOf st v b = dispatchWordOf st' v' b' ↔ st = st' ∧ v = v' ∧ b = b' := by
  constructor
  · intro h
    refine ⟨?_, ?_, ?_⟩
    · rw [← dispatchSt_wordOf st v b, h, dispatchSt_wordOf]
    · rw [← dispatchRxv_wordOf st v b, h, dispatchRxv_wordOf]
    · rw [← dispatchRxb_wordOf st v b, h, dispatchRxb_wordOf]
  · rintro ⟨rfl, rfl, rfl⟩; rfl

/-- The mask 0xE00 keeps the state field. -/
theorem dispatchWordOf_and_stMask (st : St) (v : Bool) (b : Byte) :
    dispatchWordOf st v b &&& 0xE00#12 = dispatchWordOf st false 0#8 := by
  rw [show 0xE00#12 = (7#3 ++ 0#1) ++ 0#8 from rfl, dispatchWordOf, BitVec.and_append, BitVec.and_append]
  cases st <;> cases v <;> simp [dispatchWordOf, St.code]

/-- The mask 0xF00 keeps the fields `ST` and `rxv`. -/
theorem dispatchWordOf_and_stRxvMask (st : St) (v : Bool) (b : Byte) :
    dispatchWordOf st v b &&& 0xF00#12 = dispatchWordOf st v 0#8 := by
  rw [show 0xF00#12 = (7#3 ++ 1#1) ++ 0#8 from rfl, dispatchWordOf, BitVec.and_append, BitVec.and_append]
  cases st <;> cases v <;> simp [dispatchWordOf, St.code]

/-- The mask 0xFFF keeps the whole word. -/
theorem and_fullMask (d : BitVec 12) : d &&& 0xFFF#12 = d := BitVec.and_allOnes

/-- The patterns of R91's table as the fields they stand for. -/
theorem dispatchTable_eq :
    dispatchTable =
      [ ⟨dispatchWordOf .awaitStart false 0#8, 0xE00#12, fun _ _ => .awaitStart⟩,
        ⟨dispatchWordOf .sendBlock false 0#8, 0xE00#12, fun _ _ => .sendBlock⟩,
        ⟨dispatchWordOf .awaitAck true ACK, 0xFFF#12, fun _ _ => .awaitAckAck⟩,
        ⟨dispatchWordOf .awaitAck true NAK, 0xFFF#12, fun _ _ => .awaitAckNak⟩,
        ⟨dispatchWordOf .awaitAck false 0#8, 0xF00#12, fun _ _ => .awaitAckTimeout⟩,
        ⟨dispatchWordOf .awaitAck true 0#8, 0xF00#12, fun _ b => .awaitAckNoise b⟩,
        ⟨dispatchWordOf .retry false 0#8, 0xE00#12, fun k _ => if k.exhausted then .retryFail else .retryResend⟩,
        ⟨dispatchWordOf .done false 0#8, 0xE00#12, fun _ _ => .done⟩,
        ⟨dispatchWordOf .failed false 0#8, 0xE00#12, fun _ _ => .failed⟩,
        ⟨dispatchWordOf .sendEot false 0#8, 0xE00#12, fun _ _ => .sendEot⟩,
        ⟨dispatchWordOf .awaitEotAck true ACK, 0xFFF#12, fun _ _ => .awaitEotAckAck⟩,
        ⟨dispatchWordOf .awaitEotAck true NAK, 0xFFF#12, fun _ _ => .awaitEotAckNak⟩,
        ⟨dispatchWordOf .awaitEotAck false 0#8, 0xF00#12, fun _ _ => .awaitEotAckTimeout⟩,
        ⟨dispatchWordOf .awaitEotAck true 0#8, 0xF00#12, fun _ b => .awaitEotAckNoise b⟩ ] := rfl

/-- The two readings of one word, field by field: each of the table's tests is an equation of fields. -/
theorem tableDispatch_dispatchWordOf (k : Cond) (st : St) (v : Bool) (b : Byte) :
    tableDispatch k (dispatchWordOf st v b) = some (decodeDispatch k (dispatchWordOf st v b)) := by
  rw [tableDispatch, dispatchTable_eq, ← dispatchRxb, dispatchRxb_wordOf]
  simp only [decodeDispatch, dispatchSt_wordOf, dispatchRxv_wordOf, dispatchRxb_wordOf, List.find?_cons,
    dispatchWordOf_and_stMask, dispatchWordOf_and_stRxvMask, and_fullMask, beq_eq_decide, dispatchWordOf_inj]
  cases st
  case awaitAck | awaitEotAck =>
    cases v
    · simp
    · by_cases hack : b = ACK
      · simp [hack]
      · by_cases hnak : b = NAK <;> simp [hack, hnak, show NAK ≠ ACK by decide]
  all_goals simp

/-- Settles O4: every word is its fields, and on fields the table and the decoder agree. -/
theorem decoderAgreesWithTheDispatchTable : Obligations.DecoderAgreesWithTheDispatchTable := by
  intro k d
  rw [← dispatchWordOf_fields d]
  exact tableDispatch_dispatchWordOf k _ _ _

/-! ### Table words (log 5) -/

/-- Settles O5: each word is run through the decoder of its width. -/
theorem writtenOutWordsDecode : Obligations.WrittenOutWordsDecode := by
  unfold Obligations.WrittenOutWordsDecode
  decide

/-! ### Decode of encode -/

theorem lowNibble_zero_append : ∀ x : BitVec 4, (0#4 ++ x : Byte).extractLsb' 0 4 = x := by decide

theorem highNibble_zero_append : ∀ x : BitVec 4, (0#4 ++ x : Byte).extractLsb' 4 4 = 0#4 := by decide

/-- The two bytes of a dispatch word are read back as the word's row. -/
theorem decode_dispatchBytes (k : Cond) (d : BitVec 12) (rest : List Byte) :
    decode k .dispatch (dispatchBytes d ++ rest) = .ok ((decodeDispatch k d).toInstr, rest) := by
  have hword : d.extractLsb' 8 4 ++ d.extractLsb' 0 8 = d := BitVec.extractLsb'_append_extractLsb'
  simp only [dispatchBytes, List.cons_append, List.nil_append, decode, lowNibble_zero_append,
    highNibble_zero_append, if_pos, hword]

/-- On TX, 0x01 starts a data frame of 132 bytes (R83). -/
theorem decodeTxItem_of_soh {bs : List Byte} (hsoh : bs.head? = some SOH) (hlen : FRAME_LEN ≤ bs.length) :
    decodeTxItem bs =
      .ok (.data (byteAt bs 1) (byteAt bs 2) (payloadOf bs) (byteAt bs 131), bs.drop FRAME_LEN) := by
  cases bs with
  | nil => cases hsoh
  | cons b rest =>
    cases hsoh
    rw [decodeTxItem, if_neg (by decide), if_pos rfl, if_neg (by omega)]

/-- A data frame of 132 bytes is read back field by field, whatever follows it on TX (R83). -/
theorem decodeTxItem_dataFrame (seq cseq chk : Byte) {payload : List Byte} (h : payload.length = BLOCK)
    (rest : List Byte) :
    decodeTxItem (dataFrame seq cseq payload chk ++ rest) = .ok (.data seq cseq payload chk, rest) := by
  have hlen : (dataFrame seq cseq payload chk).length = FRAME_LEN := by simp [h, BLOCK, FRAME_LEN]
  have hpayload : payloadOf (dataFrame seq cseq payload chk ++ rest) = payload := by
    simp [payloadOf, dataFrame, ← h]
  have hchk : byteAt (dataFrame seq cseq payload chk ++ rest) 131 = chk := by
    simp [byteAt, dataFrame, h, BLOCK]
  have hdrop : (dataFrame seq cseq payload chk ++ rest).drop FRAME_LEN = rest := by
    rw [← hlen, List.drop_left]
  rw [decodeTxItem_of_soh rfl (by simp [hlen]), hpayload, hchk, hdrop]
  rfl

/-- A dispatch row's word, under the row's condition, selects the row. -/
theorem decode_dispatchWordOf {k : Cond} {st : St} {v : Bool} {b : Byte} {i : Instr} (rest : List Byte)
    (h : (decodeDispatch k (dispatchWordOf st v b)).toInstr = i) :
    decode k .dispatch (dispatchBytes (dispatchWordOf st v b) ++ rest) = .ok (i, rest) := by
  rw [decode_dispatchBytes, h]

/-- A noise byte in an open window selects the noise arm of that window. -/
theorem decodeDispatch_noise (k : Cond) {b : Byte} (h : isNoise b = true) :
    decodeDispatch k (dispatchWordOf .awaitAck true b) = .awaitAckNoise b ∧
      decodeDispatch k (dispatchWordOf .awaitEotAck true b) = .awaitEotAckNoise b := by
  obtain ⟨hack, hnak⟩ := isNoise_iff.1 h
  simp [decodeDispatch, hack, hnak]

/-- Settles O6: by the row's format. A command is its two bits, a dispatch row its fields, an item of TX is told by its
first byte, a response by its value. -/
theorem decodeOfEncodeIsTheInstruction : Obligations.DecodeOfEncodeIsTheInstruction := by
  intro i rest hwf hfmt
  cases i with
  | reset | start | startRefused | nocmd => rfl
  | awaitStart | sendBlock | retryFail | retryResend | done | failed | sendEot | awaitAckAck | awaitAckNak
  | awaitAckTimeout | awaitEotAckAck | awaitEotAckNak | awaitEotAckTimeout =>
    exact decode_dispatchWordOf rest (by decide)
  | awaitAckNoise b =>
    exact decode_dispatchWordOf rest (congrArg DispatchRow.toInstr (decodeDispatch_noise _ hwf).1)
  | awaitEotAckNoise b =>
    exact decode_dispatchWordOf rest (congrArg DispatchRow.toInstr (decodeDispatch_noise _ hwf).2)
  | data seq cseq payload chk =>
    simp only [Instr.wellFormed, Bool.and_eq_true, beq_iff_eq] at hwf
    obtain ⟨⟨hlen, -⟩, -⟩ := hwf
    exact decodeTxItem_dataFrame seq cseq chk hlen rest
  | eot | ack | nak => rfl
  | noise b =>
    obtain ⟨hack, hnak⟩ := isNoise_iff.1 hwf
    exact congrArg (fun i => Except.ok (i, rest)) (decodeResponse_of_ne hack hnak)
  | seqnext | cseq | padblk | chk | chunklen | nblocks | encode | verify | decode | verifyseq => exact absurd rfl hfmt

end Sys2Proof.Machine
end

section
/-! Step selection (R91, R92): when each row of the dispatch table is the one selected, every row as its effect behind
that condition, and O7, O9, O27, O44. -/
namespace Sys2Proof.Machine

/-! ### When a row is selected -/

/-- The condition under which a row's step is the one taken: its `require`. -/
def rowTaken (r : DispatchRow) (s : State) : Prop :=
  match r with
  | .awaitStart => s.st = .awaitStart
  | .sendBlock => s.st = .sendBlock
  | .awaitAckAck => s.st = .awaitAck ∧ rxAnswer s = .byte ACK
  | .awaitAckNak => s.st = .awaitAck ∧ rxAnswer s = .byte NAK
  | .awaitAckTimeout => s.st = .awaitAck ∧ rxAnswer s = .timeout
  | .awaitAckNoise b => s.st = .awaitAck ∧ rxAnswer s = .byte b ∧ isNoise b = true
  | .retryFail => s.st = .retry ∧ s.err > s.cfg.maxRetry
  | .retryResend => s.st = .retry ∧ s.err ≤ s.cfg.maxRetry
  | .done => s.st = .done
  | .failed => s.st = .failed
  | .sendEot => s.st = .sendEot
  | .awaitEotAckAck => s.st = .awaitEotAck ∧ rxAnswer s = .byte ACK
  | .awaitEotAckNak => s.st = .awaitEotAck ∧ rxAnswer s = .byte NAK
  | .awaitEotAckTimeout => s.st = .awaitEotAck ∧ rxAnswer s = .timeout
  | .awaitEotAckNoise b => s.st = .awaitEotAck ∧ rxAnswer s = .byte b ∧ isNoise b = true

/-- The condition of the selected row holds. -/
theorem rowTaken_selectedRow (s : State) : rowTaken (selectedRow s) s := by
  rw [selectedRow_eq]
  cases hst : s.st
  case awaitStart | sendBlock | done | failed | sendEot => exact hst
  case retry =>
    by_cases herr : s.err > s.cfg.maxRetry
    · simpa only [if_pos herr] using ⟨hst, herr⟩
    · simpa only [if_neg herr] using ⟨hst, Nat.not_lt.1 herr⟩
  case awaitAck | awaitEotAck =>
    cases hrx : rxAnswer s with
    | timeout => exact ⟨hst, hrx⟩
    | byte b =>
      by_cases hack : b = ACK
      · subst hack; exact ⟨hst, hrx⟩
      · by_cases hnak : b = NAK
        · subst hnak; exact ⟨hst, hrx⟩
        · simpa only [if_neg hack, if_neg hnak] using ⟨hst, hrx, isNoise_iff.2 ⟨hack, hnak⟩⟩

/-- A row whose condition holds is the selected one: no two rows apply in one state (R91). -/
theorem selectedRow_eq_of_rowTaken {r : DispatchRow} {s : State} (h : rowTaken r s) : selectedRow s = r := by
  have hnak : NAK ≠ ACK := by decide
  rw [selectedRow_eq]
  cases r
  case awaitAckNoise b | awaitEotAckNoise b =>
    obtain ⟨hst, hrx, hb⟩ := h
    simp [hst, hrx, isNoise_iff.1 hb]
  case retryResend => simp [h.1, Nat.not_lt.2 h.2]
  all_goals simp_all [rowTaken]

/-! ### A row as its effect behind its condition -/

/-- What a row's step does where it is taken. -/
def rowEffect (r : DispatchRow) (s : State) : Outcome :=
  match r with
  | .awaitStart | .done | .failed => .next s
  | .sendBlock => sendBlockEffect s
  | .awaitAckAck => .next (ackBlockEffect s)
  | .awaitAckNak => .next (failedAttemptEffect .nak s)
  | .awaitAckTimeout => .next (failedAttemptEffect .timeout s)
  | .awaitAckNoise _ | .awaitEotAckNoise _ => .next (noiseEffect s)
  | .retryFail => .next (raiseFatal .retryExhausted s)
  | .retryResend => resendEffect s
  | .sendEot => .next (sendEotEffect s)
  | .awaitEotAckAck => .next (finalAckEffect s)
  | .awaitEotAckNak => .next (failedEotEffect .nak s)
  | .awaitEotAckTimeout => .next (failedEotEffect .timeout s)

theorem runRow_of_rowTaken {r : DispatchRow} {s : State} (h : rowTaken r s) : runRow r s = rowEffect r s := by
  cases r <;> exact require_pos h

theorem runRow_of_not_rowTaken {r : DispatchRow} {s : State} (h : ¬ rowTaken r s) :
    runRow r s = .refused .stepNotSelected := by
  cases r <;> exact require_neg h

/-- A row is its effect behind its condition, in whatever form the condition is given. -/
theorem runRow_eq_require {r : DispatchRow} {s : State} {p : Prop} [Decidable p] (h : rowTaken r s ↔ p) :
    runRow r s = require p (rowEffect r s) := by
  by_cases hp : p
  · rw [require_pos hp, runRow_of_rowTaken (h.2 hp)]
  · rw [require_neg hp, runRow_of_not_rowTaken (mt h.1 hp)]

theorem runRow_selectedRow (s : State) : runRow (selectedRow s) s = rowEffect (selectedRow s) s :=
  runRow_of_rowTaken (rowTaken_selectedRow s)

/-- Settles O44: a row that is not selected fails its `require`. -/
theorem unselectedStepsAreRefused : Obligations.UnselectedStepsAreRefused := by
  intro r s hne
  rw [← runRow_eq_exec]
  exact runRow_of_not_rowTaken fun h => hne (selectedRow_eq_of_rowTaken h).symm

/-- Settles O27: the three rows are taken there, and their effect is the state itself. -/
theorem idleAndTerminalStatesTakeNoStep : Obligations.IdleAndTerminalStatesTakeNoStep :=
  fun _ => ⟨require_pos, require_pos, require_pos⟩

/-! ### How a step can stop -/

/-- SEND_BLOCK's effect goes on, or is refused where the image lacks a byte (R53). -/
theorem sendBlockEffect_cases (s : State) :
    (∃ t, sendBlockEffect s = .next t) ∨
      (imageRead s.len s.img s.off (chunkLen s.len s.off) = none ∧
        sendBlockEffect s = .refused .imageReadOutside) := by
  cases hread : imageRead s.len s.img s.off (chunkLen s.len s.off) with
  | none => exact .inr ⟨rfl, by simp [sendBlockEffect, hread]⟩
  | some c => exact .inl ⟨_, sendBlockEffect_eq_next.2 ⟨c, hread, rfl⟩⟩

/-- RETRY.RESEND's effect goes on, or faults where `FB` holds no frame (U2). -/
theorem resendEffect_cases (s : State) :
    (∃ t, resendEffect s = .next t) ∨ (frameInBuffer s = none ∧ resendEffect s = .fault .fbHasNoValue) := by
  cases hfb : frameInBuffer s with
  | none => exact .inr ⟨rfl, by simp [resendEffect, hfb]⟩
  | some F => exact .inl ⟨_, resendEffect_eq_next.2 ⟨F, hfb, rfl⟩⟩

/-- A step answers a next state, but for two stops: SEND_BLOCK outside the image and RETRY.RESEND without a frame. -/
theorem step_outcome_cases (s : State) :
    (∃ t, step s = .next t) ∨
    (s.st = .sendBlock ∧ imageRead s.len s.img s.off (chunkLen s.len s.off) = none ∧
      step s = .refused .imageReadOutside) ∨
    (s.st = .retry ∧ frameInBuffer s = none ∧ step s = .fault .fbHasNoValue) := by
  rcases step_cases s with ⟨-, hs⟩ | ⟨-, -, hs⟩ | ⟨-, -, hs⟩ | ⟨-, hs⟩
  · exact .inl ⟨_, hs⟩
  · exact .inl ⟨_, hs⟩
  · exact .inl ⟨_, hs⟩
  · have htaken := rowTaken_selectedRow (popCommand s)
    rw [hs, runRow_selectedRow]
    cases hrow : selectedRow (popCommand s)
    case sendBlock =>
      rw [hrow] at htaken
      rcases sendBlockEffect_cases (popCommand s) with hnext | ⟨hread, hstop⟩
      · exact .inl hnext
      · exact .inr (.inl ⟨htaken, hread, hstop⟩)
    case retryResend =>
      rw [hrow] at htaken
      rcases resendEffect_cases (popCommand s) with hnext | ⟨hfb, hstop⟩
      · exact .inl hnext
      · exact .inr (.inr ⟨htaken.1, hfb, hstop⟩)
    all_goals exact .inl ⟨_, rfl⟩

/-- Settles O9: the only refusal a step can answer is that of a read outside the image. -/
theorem stepSelectsOnlyStepsTheStateTakes : Obligations.StepSelectsOnlyStepsTheStateTakes := by
  intro s h
  rcases step_outcome_cases s with ⟨t, hs⟩ | ⟨-, -, hs⟩ | ⟨-, -, hs⟩ <;> cases hs.symm.trans h

/-! ### The step by the command port (R92) -/

theorem step_of_reset {s : State} (h : (command s).word.getLsbD 1 = true) : step s = exec .reset s := by
  simp [step, selectedCommand, decodeCommand, h]

theorem step_of_start {s : State} (h : (command s).word = 1#2) (hst : s.st = .awaitStart) :
    step s = exec .start s := by
  simp [step, selectedCommand, decodeCommand, h, condOf, hst]

theorem step_of_startRefused {s : State} (h : (command s).word = 1#2) (hst : s.st ≠ .awaitStart) :
    step s = exec .startRefused s := by
  simp [step, selectedCommand, decodeCommand, h, condOf, hst]

theorem step_of_nocmd {s : State} (h : (command s).word = 0#2) : step s = exec .nocmd s := by
  simp [step, selectedCommand, decodeCommand, h]

/-- With no command, NOCMD is the selected row's instruction, run with the sample spent. -/
theorem exec_nocmd {s : State} (h : (command s).word = 0#2) :
    exec .nocmd s = exec (selectedRow s).toInstr (popCommand s) :=
  (require_pos h).trans (runRow_eq_exec _ _)

/-- Settles O7: one equation of the step for each value of the command word. -/
theorem stepRunsTheSelectedInstruction : Obligations.StepRunsTheSelectedInstruction :=
  fun _ => ⟨step_of_reset, step_of_start, step_of_startRefused, fun h => ⟨step_of_nocmd h, exec_nocmd h⟩⟩

end Sys2Proof.Machine
end

section
/-! The pure functions (`40_frame_encoder.md`, `43_verify.md`): the values of the small ones, the bytes of a frame, the
verifier by its conditions, and O32 to O41. -/
namespace Sys2Proof.Machine

open Sys2Proof.Safety

/-! ### Giving a result (log 7) -/

theorem onDomain_pos {p : Bool} {k : Outcome} (h : p = true) : onDomain p k = k := if_pos h

theorem onDomain_neg {p : Bool} {k : Outcome} (h : p = false) : onDomain p k = .refused .operandOutsideDomain :=
  if_neg (by simp [h])

theorem onDomain_eq_next {p : Bool} {k : Outcome} {t : State} : onDomain p k = .next t ↔ p = true ∧ k = .next t := by
  cases p with
  | true => simp [onDomain_pos]
  | false => simp [onDomain_neg]

/-! ### SEQNEXT and CSEQ (R111, R112) -/

theorem cseqOf_eq_sub (seq : Byte) : cseqOf seq = 255#8 - seq := by
  apply BitVec.eq_of_toNat_eq
  have := seq.isLt
  rw [cseqOf_toNat, BitVec.toNat_sub]
  simp; omega

theorem cseqOf_eq_not (seq : Byte) : cseqOf seq = ~~~seq := by
  apply BitVec.eq_of_toNat_eq
  rw [cseqOf_toNat, BitVec.toNat_not]

theorem cseqOf_eq_xor (seq : Byte) : cseqOf seq = seq ^^^ 0xFF#8 := by
  rw [cseqOf_eq_not]
  exact BitVec.xor_allOnes.symm

/-- Settles O32: the values of the two functions, the complement in its three forms. -/
theorem seqnextAndCseqValues : Obligations.SeqnextAndCseqValues := fun _ seq =>
  ⟨⟨_, _, rfl, rfl, seqNext_toNat seq⟩,
    ⟨_, _, rfl, rfl, cseqOf_toNat seq, cseqOf_eq_not seq, cseqOf_eq_xor seq⟩⟩

/-! ### PADBLK (R113) -/

theorem padBlk_getElem?_chunk {chunk : List Byte} {i : Nat} (h : i < chunk.length) :
    (padBlk chunk)[i]? = chunk[i]? :=
  List.getElem?_append_left h

theorem padBlk_getElem?_fill {chunk : List Byte} {i : Nat} (h : chunk.length ≤ i) (hi : i < BLOCK) :
    (padBlk chunk)[i]? = some PAD := by
  rw [padBlk, List.getElem?_append_right h, List.getElem?_replicate, if_pos (by omega)]

/-- A whole block needs no filler. -/
theorem padBlk_of_length {payload : List Byte} (h : payload.length = BLOCK) : padBlk payload = payload := by
  simp [padBlk, h]

/-- Settles O33: the chunk's bytes, then the filler, by the two readings of PADBLK. -/
theorem padblkFillsWith1A : Obligations.PadblkFillsWith1A := fun _ _ h =>
  ⟨_, _, onDomain_pos (decide_eq_true h), rfl, padBlk_length h, fun _ => padBlk_getElem?_chunk,
    fun _ => padBlk_getElem?_fill⟩

/-! ### CHK (R114, R118) -/

@[simp] theorem byteSum_cons (b : Byte) (bs : List Byte) : byteSum (b :: bs) = b.toNat + byteSum bs := rfl

@[simp] theorem byteSum_append (a b : List Byte) : byteSum (a ++ b) = byteSum a + byteSum b := by
  simp [byteSum]

theorem byteSum_perm {p q : List Byte} (h : p.Perm q) : byteSum p = byteSum q := (h.map _).sum_eq

/-- The filler adds 26 a byte. -/
theorem byteSum_padBlk (chunk : List Byte) : byteSum (padBlk chunk) = byteSum chunk + 26 * (128 - chunk.length) := by
  rw [padBlk, byteSum_append, byteSum, byteSum, List.map_replicate, List.sum_replicate, smul_eq_mul, Nat.mul_comm]
  rfl

/-- Settles O34: the value of CHK on its domain. -/
theorem chkIsTheSumMod256 : Obligations.ChkIsTheSumMod256 := fun _ payload h =>
  ⟨_, _, onDomain_pos (beq_iff_eq.2 h), rfl, chkOf_toNat payload⟩

/-- Settles O41: the four laws are those of the sum of the bytes, taken mod 256. -/
theorem checksumIsASum : Obligations.ChecksumIsASum := by
  refine ⟨fun p q h => ?_, fun a b => ?_, fun c _ => ?_, fun a b x y => ?_⟩
  · rw [chkOf, chkOf, byteSum_perm h]
  · rw [chkOf_toNat, byteSum_append]
  · rw [chkOf_toNat, byteSum_padBlk]
  · simp only [chkOf_toNat, byteSum_append, byteSum_cons]
    omega

/-! ### CHUNKLEN and NBLOCKS (R115) -/

/-- `NBLOCKS(L)` is the least number of blocks that hold `L` bytes. -/
theorem nBlocks_le_iff {L n : Nat} : nBlocks L ≤ n ↔ L ≤ BLOCK * n := by
  simp only [nBlocks, BLOCK]; omega

/-- Settles O35: CHUNKLEN by its definition, NBLOCKS as the least bound. -/
theorem chunklenAndNblocksValues : Obligations.ChunklenAndNblocksValues :=
  ⟨fun _ _ _ h => ⟨_, onDomain_pos (decide_eq_true h), rfl⟩,
    fun _ _ => ⟨_, _, rfl, rfl, nBlocks_le_iff.1 (Nat.le_refl _), fun _ => nBlocks_le_iff.2⟩⟩

/-! ### The bytes of a frame (R81, R116) -/

theorem dataFrame_getElem?_payload (seq cseq chk : Byte) {payload : List Byte} {i : Nat} (h : i < payload.length) :
    (dataFrame seq cseq payload chk)[3 + i]? = payload[i]? := by
  rw [dataFrame, List.append_assoc, Nat.add_comm]
  exact List.getElem?_append_left h

theorem dataFrame_getElem?_chk (seq cseq chk : Byte) {payload : List Byte} (h : payload.length = BLOCK) :
    (dataFrame seq cseq payload chk)[131]? = some chk := by
  simp [dataFrame, h, BLOCK]

/-- The payload of the frame built from a chunk is the padded chunk. -/
theorem payloadOf_encodeFrame (seq : Byte) {chunk : List Byte} (h : chunk.length ≤ BLOCK) :
    payloadOf (encodeFrame seq chunk) = padBlk chunk :=
  payloadOf_dataFrame _ _ _ (padBlk_length h)

theorem encodeFrame_getElem?_chunk (seq : Byte) {chunk : List Byte} (h : chunk.length ≤ BLOCK) {i : Nat}
    (hi : i < chunk.length) : (encodeFrame seq chunk)[3 + i]? = chunk[i]? := by
  rw [encodeFrame, dataFrame_getElem?_payload _ _ _ (by rw [padBlk_length h]; omega), padBlk_getElem?_chunk hi]

theorem encodeFrame_getElem?_fill (seq : Byte) {chunk : List Byte} {i : Nat} (h : chunk.length ≤ i)
    (hi : i < BLOCK) : (encodeFrame seq chunk)[3 + i]? = some PAD := by
  rw [encodeFrame, dataFrame_getElem?_payload _ _ _ (by rw [padBlk_length (by omega)]; exact hi),
    padBlk_getElem?_fill h hi]

/-- The last byte is the sum over the payload, read back from the frame. -/
theorem encodeFrame_getElem?_chk (seq : Byte) {chunk : List Byte} (h : chunk.length ≤ BLOCK) :
    (encodeFrame seq chunk)[131]? = some (BitVec.ofNat 8 (byteSum (payloadOf (encodeFrame seq chunk)))) := by
  rw [payloadOf_encodeFrame seq h, encodeFrame, dataFrame_getElem?_chk _ _ _ (padBlk_length h), chkOf]
  congr 1
  exact BitVec.eq_of_toNat_eq (by simp)

/-- Settles O36: the frame byte by byte. -/
theorem encodeBuildsTheFrame : Obligations.EncodeBuildsTheFrame := fun _ seq _ h =>
  ⟨_, _, onDomain_pos (decide_eq_true h), rfl, encodeFrame_length h, rfl, rfl, congrArg some (cseqOf_eq_sub seq),
    fun _ => encodeFrame_getElem?_chunk seq h, fun _ => encodeFrame_getElem?_fill seq, encodeFrame_getElem?_chk seq h⟩

/-! ### The verifier (R181, R182) -/

theorem byteAt_eq_iff {F : List Byte} {i : Nat} {b : Byte} (h : i < F.length) : byteAt F i = b ↔ F[i]? = some b := by
  simp [byteAt, h]

/-- `VERIFY` by its four conditions. -/
theorem verifyFrame_iff {F : List Byte} :
    verifyFrame F = true ↔ F.length = FRAME_LEN ∧ byteAt F 0 = SOH ∧
      (byteAt F 1).toNat + (byteAt F 2).toNat = 255 ∧ byteAt F 131 = chkOf (payloadOf F) := by
  simp [verifyFrame, and_assoc]

theorem chkOf_eq_iff {b : Byte} {payload : List Byte} : b = chkOf payload ↔ b.toNat = byteSum payload % 256 := by
  rw [← BitVec.toNat_inj, chkOf_toNat]

theorem verifySeq_iff {F : List Byte} {exp : Byte} :
    verifySeq F exp = true ↔ verifyFrame F = true ∧ byteAt F 1 = exp := by
  simp [verifySeq]

/-- Settles O37: the conditions of VERIFY as the rule writes them, and the two functions that rest on it. -/
theorem verifyDecodeVerifyseqValues : Obligations.VerifyDecodeVerifyseqValues := by
  intro s F
  refine ⟨⟨_, _, rfl, rfl, ?_⟩, fun hF => ⟨_, onDomain_pos hF, rfl⟩, fun exp => ⟨_, _, rfl, rfl, verifySeq_iff⟩⟩
  rw [verifyFrame_iff, chkOf_eq_iff]
  refine and_congr_right fun hlen => and_congr_left fun _ => byteAt_eq_iff ?_
  simp [hlen, FRAME_LEN]

/-! ### The laws joining the two (R183) -/

theorem verifyFrame_encodeFrame (seq : Byte) {chunk : List Byte} (h : chunk.length ≤ BLOCK) :
    verifyFrame (encodeFrame seq chunk) = true := by
  have hseq := seq.isLt
  rw [verifyFrame_iff, payloadOf_encodeFrame seq h]
  refine ⟨encodeFrame_length h, rfl, ?_, byteAt_dataFrame_last _ _ _ (padBlk_length h)⟩
  rw [encodeFrame, byteAt_dataFrame_one, byteAt_dataFrame_two, cseqOf_toNat]
  omega

theorem decodeFrame_encodeFrame (seq : Byte) {chunk : List Byte} (h : chunk.length ≤ BLOCK) :
    decodeFrame (encodeFrame seq chunk) = (seq, padBlk chunk) :=
  congrArg (Prod.mk seq) (payloadOf_encodeFrame seq h)

theorem payloadOf_length {F : List Byte} (h : F.length = FRAME_LEN) : (payloadOf F).length = BLOCK := by
  simp [payloadOf, h, FRAME_LEN, BLOCK]

/-- A sequence of 132 bytes that begins with 0x01 is the data frame of its fields. -/
theorem dataFrame_of_fields {F : List Byte} (hlen : F.length = FRAME_LEN) (hsoh : byteAt F 0 = SOH) :
    dataFrame (byteAt F 1) (byteAt F 2) (payloadOf F) (byteAt F 131) = F := by
  obtain ⟨a, b, c, rest, rfl⟩ : ∃ a b c rest, F = a :: b :: c :: rest := by
    match F, hlen with
    | a :: b :: c :: rest, _ => exact ⟨a, b, c, rest, rfl⟩
  have hrest : rest.length = BLOCK + 1 := by simpa [FRAME_LEN, BLOCK] using hlen
  have hlast : rest.drop BLOCK = [byteAt (a :: b :: c :: rest) 131] := by
    rw [List.drop_eq_getElem_cons (by omega), List.drop_of_length_le (by omega)]
    simp [byteAt, BLOCK, hrest]
  have hsplit : payloadOf (a :: b :: c :: rest) ++ [byteAt (a :: b :: c :: rest) 131] = rest := by
    rw [← hlast]; exact List.take_append_drop BLOCK rest
  rw [dataFrame, List.append_assoc, hsplit, ← hsoh]
  rfl

/-- A frame that verifies is the encoding of its own payload. -/
theorem encodeFrame_of_verifyFrame {F : List Byte} (h : verifyFrame F = true) :
    encodeFrame (byteAt F 1) (payloadOf F) = F := by
  obtain ⟨hlen, hsoh, hsum, hchk⟩ := verifyFrame_iff.1 h
  have hcseq : cseqOf (byteAt F 1) = byteAt F 2 := BitVec.eq_of_toNat_eq (by rw [cseqOf_toNat]; omega)
  rw [encodeFrame, padBlk_of_length (payloadOf_length hlen), hcseq, ← hchk, dataFrame_of_fields hlen hsoh]

/-- Settles O40: what the verifier and the decoder say of an encoding; the encoder's injectivity follows from the
decoder, the last law from the fields of a frame. -/
theorem encoderAndVerifierAgree : Obligations.EncoderAndVerifierAgree := by
  refine ⟨fun seq c h => verifyFrame_encodeFrame seq h, fun seq c h => decodeFrame_encodeFrame seq h,
    fun seq seq' c c' h h' heq => ?_, fun F h => (encodeFrame_of_verifyFrame h).symm⟩
  have hdecode := congrArg decodeFrame heq
  rw [decodeFrame_encodeFrame seq h, decodeFrame_encodeFrame seq' h'] at hdecode
  exact Prod.mk.inj hdecode

/-! ### The pure functions as instructions (R110) -/

/-- Settles O39: each of the five tests fails. -/
theorem pureFunctionsAreRefusedOutsideTheirTypes : Obligations.PureFunctionsAreRefusedOutsideTheirTypes := by
  intro s
  refine ⟨fun chunk h => ?_, fun payload h => onDomain_neg (by simpa [BLOCK] using h),
    fun L off h => onDomain_neg (by simpa using h), fun F h => onDomain_neg h⟩
  have hdom : decide (chunk.length ≤ BLOCK) = false := decide_eq_false (Nat.not_le.2 h)
  exact ⟨onDomain_neg hdom, fun _ => onDomain_neg hdom⟩

/-- A pure function that has a value gives it in every state, and on `fres` alone. -/
theorem exec_func_next {i : Instr} {s t : State} (hi : i.format = .func) (h : exec i s = .next t) :
    ∃ r, ∀ s', exec i s' = give r s' := by
  cases i
  case seqnext seq => exact ⟨_, fun _ => rfl⟩
  case cseq seq => exact ⟨_, fun _ => rfl⟩
  case nblocks L => exact ⟨_, fun _ => rfl⟩
  case verify F => exact ⟨_, fun _ => rfl⟩
  case verifyseq F exp => exact ⟨_, fun _ => rfl⟩
  case padblk chunk => exact ⟨_, fun _ => onDomain_pos (onDomain_eq_next.1 h).1⟩
  case chk payload => exact ⟨_, fun _ => onDomain_pos (onDomain_eq_next.1 h).1⟩
  case chunklen L off => exact ⟨_, fun _ => onDomain_pos (onDomain_eq_next.1 h).1⟩
  case encode seq chunk => exact ⟨_, fun _ => onDomain_pos (onDomain_eq_next.1 h).1⟩
  case decode F => exact ⟨_, fun _ => onDomain_pos (onDomain_eq_next.1 h).1⟩
  all_goals cases hi

/-- Settles O38: the next state is the state with the result on `fres`, which is no register, memory, port or input. -/
theorem pureFunctionsTouchNoState : Obligations.PureFunctionsTouchNoState := by
  intro i s t hi h
  obtain ⟨r, hr⟩ := exec_func_next hi h
  obtain rfl : t = { s with fres := some r } := by cases (hr s).symm.trans h; rfl
  have hwrites : OnlyWrites [] s { s with fres := some r } := by simp [onlyWrites_iff]
  exact ⟨hwrites, fun _ => ⟨rfl, rfl⟩, rfl, ⟨rfl, rfl, rfl, rfl, rfl⟩, rfl, rfl, rfl, ⟨rfl, fun _ => rfl⟩,
    fun s' => ⟨_, hr s', rfl⟩⟩

end Sys2Proof.Machine
end

section
/-! Rules of every step, over its outcomes (`step_next_cases`, `RowStep`): O42, O43, O45 to O47. -/
namespace Sys2Proof.Machine

open Sys2Proof.Safety

/-! ### A step with no command -/

/-- With no command a step is an outcome of the selected row, on the state with the sample spent. -/
theorem rowStep_of_nocmd {s t : State} (hword : (command s).word = 0#2) (h : step s = .next t) :
    RowStep (popCommand s) (selectedRow s) t := by
  rcases step_next_cases h with ⟨hw, -⟩ | ⟨hw, -, -⟩ | ⟨hw, -, -⟩ | ⟨-, hrow⟩
  · simp [hword] at hw
  · simp [hword] at hw
  · simp [hword] at hw
  · exact hrow

/-- The spent sample is no register. -/
theorem onlyWrites_popCommand {W : List Reg} {s t : State} (h : OnlyWrites W (popCommand s) t) : OnlyWrites W s t :=
  fun r hr => (h r hr).trans (by cases r <;> rfl)

/-- Settles O42: the selected row writes its own row of the matrix, and the sample is no register. -/
theorem stepsWriteOnlyTheirRowOfTheMatrix : Obligations.StepsWriteOnlyTheirRowOfTheMatrix :=
  fun _ _ hword h => onlyWrites_popCommand (rowStep_of_nocmd hword h).onlyWrites

/-! ### The transition table (R200) -/

/-- With no command, `ST` goes where the outcome of the selected row puts it. -/
theorem RowStep.st_eq_nextSt {s t : State} {r : DispatchRow} (hword : (command s).word = 0#2)
    (h : RowStep (popCommand s) r t) : t.st = nextSt s := by
  have hnak : NAK ≠ ACK := by decide
  unfold nextSt
  rw [if_neg (by simp [hword]), if_neg (by simp [hword])]
  cases h
  case sendOk | sendFail | resendOk | resendFail | eotOk | eotFail => simp_all [writeOk]
  case noise | eotNoise => simp_all [isNoise_iff]
  all_goals simp_all

/-- Settles O43: a command puts `ST` where R220, R130 and R131 say, no command where the selected row does. -/
theorem stFollowsTheTransitionTable : Obligations.StFollowsTheTransitionTable := by
  intro s t h
  rcases step_next_cases h with ⟨hw, rfl⟩ | ⟨hw, hst, rfl⟩ | ⟨hw, hst, rfl⟩ | ⟨hw, hrow⟩
  · simp [nextSt, hw, resetEffect]
  · simp [nextSt, hw, hst, startEffect]
  · simp [nextSt, hw, hst]
  · exact hrow.st_eq_nextSt hw

/-! ### DONE and FAILED (R162, R163) -/

theorem RowStep.eq_of_terminal {s t : State} {r : DispatchRow} (h : RowStep s r t)
    (hst : s.st = .done ∨ s.st = .failed) : t = s := by
  cases h
  case awaitStart | done | failed => rfl
  all_goals simp_all

/-- In a terminal state a step that is no RESET only spends the sample. -/
theorem step_of_terminal {s t : State} (hst : s.st = .done ∨ s.st = .failed)
    (hword : (command s).word.getLsbD 1 = false) (h : step s = .next t) : t = popCommand s := by
  rcases step_next_cases h with ⟨hw, -⟩ | ⟨-, hidle, -⟩ | ⟨-, -, rfl⟩ | ⟨-, hrow⟩
  · cases hw.symm.trans hword
  · simp [hidle] at hst
  · rfl
  · exact hrow.eq_of_terminal hst

/-- Settles O45: the step exists, since the two stops are in other states, and only spends the sample. -/
theorem terminalStatesAreAbsorbing : Obligations.TerminalStatesAreAbsorbing := by
  intro s hst hword
  rcases step_outcome_cases s with ⟨t, h⟩ | ⟨hbusy, -, -⟩ | ⟨hbusy, -, -⟩
  · obtain rfl := step_of_terminal hst hword h
    have hwrites : OnlyWrites [] s (popCommand s) := by simp [onlyWrites_iff]
    exact ⟨_, h, hwrites, ⟨rfl, rfl, rfl, rfl, rfl⟩, rfl⟩
  · simp [hbusy] at hst
  · simp [hbusy] at hst

/-! ### The four counts (R36 item 8) -/

theorem RowStep.counts_le {s t : State} {r : DispatchRow} (h : RowStep s r t) :
    s.succ ≤ t.succ ∧ s.errtot ≤ t.errtot ∧ s.total ≤ t.total ∧ s.off ≤ t.off := by
  cases h <;> simp

/-- Settles O46: START writes none of the four, and no row of the table lowers one. -/
theorem countsNeverDecreaseBetweenResets : Obligations.CountsNeverDecreaseBetweenResets := by
  intro s t hword h
  have hrefl : s.succ ≤ s.succ ∧ s.errtot ≤ s.errtot ∧ s.total ≤ s.total ∧ s.off ≤ s.off := by simp
  rcases step_next_cases h with ⟨hw, -⟩ | ⟨-, -, rfl⟩ | ⟨-, -, rfl⟩ | ⟨-, hrow⟩
  · cases hw.symm.trans hword
  · exact hrefl
  · exact hrefl
  · exact hrow.counts_le

/-! ### Half duplex (R36 item 9, R62, R64) -/

/-- A row that lengthens TX is one of the three that transmit, and opens a window or fails. -/
theorem RowStep.txStream_ne {s t : State} {r : DispatchRow} (h : RowStep s r t) (htx : txStream t ≠ txStream s) :
    (s.st = .sendBlock ∨ s.st = .retry ∨ s.st = .sendEot) ∧
      (t.st = .awaitAck ∨ t.st = .awaitEotAck ∨ t.st = .failed) := by
  cases h
  case sendOk st _ _ => exact ⟨.inl st, .inl rfl⟩
  case sendFail st _ _ => exact ⟨.inl st, .inr (.inr rfl)⟩
  case resendOk st _ _ _ => exact ⟨.inr (.inl st), .inl rfl⟩
  case resendFail st _ _ _ => exact ⟨.inr (.inl st), .inr (.inr rfl)⟩
  case eotOk st _ => exact ⟨.inr (.inr st), .inr (.inl rfl)⟩
  case eotFail st _ => exact ⟨.inr (.inr st), .inr (.inr rfl)⟩
  all_goals exact absurd (by simp [txStream, PortOp.txBytes]) htx

/-- A row reads one answer where a window is open, and none elsewhere. -/
theorem RowStep.rx_eq {s t : State} {r : DispatchRow} (h : RowStep s r t) :
    t.rx = if windowOpen s then s.rx.tail else s.rx := by
  cases hw : windowOpen s with
  | true => exact (h.frame_of_windowOpen hw).2.1
  | false => exact (h.rx_progress_of_windowClosed hw).1

/-- Settles O47: a command uses neither port; a row of the table writes TX and reads RX as the two lemmas say. -/
theorem theProtocolIsHalfDuplex : Obligations.TheProtocolIsHalfDuplex := by
  intro s t h
  rcases step_next_cases h with ⟨hw, rfl⟩ | ⟨hw, -, rfl⟩ | ⟨hw, -, rfl⟩ | ⟨hw, hrow⟩
  · exact ⟨fun htx => absurd (streams_of_reset (popCommand s)).1 htx, .inl rfl, fun _ hw' => by simp [hw'] at hw⟩
  · exact ⟨fun htx => absurd (by simp [txStream, startEffect, PortOp.txBytes]) htx, .inl rfl,
      fun _ hw' => by simp [hw'] at hw⟩
  · exact ⟨fun htx => absurd rfl htx, .inl rfl, fun _ hw' => by simp [hw'] at hw⟩
  · have hrx : t.rx = if windowOpen s then s.rx.tail else s.rx := hrow.rx_eq
    refine ⟨hrow.txStream_ne, ?_, fun hopen _ => by rw [hrx, if_pos hopen]⟩
    cases hopen : windowOpen s with
    | true => exact .inr ⟨rfl, by simpa [hopen] using hrx⟩
    | false => exact .inl (by simpa [hopen] using hrx)

end Sys2Proof.Machine
end

section
/-! The rows of the wire (log 10) as the steps they are, what any instruction can do, and O12, O16, O17, O28 to O31, O48,
O49. -/
namespace Sys2Proof.Machine

open Sys2Proof.Safety

/-! ### The response byte (R85) -/

/-- The byte of a response row, and its arms in the data window and in the `EOT` window (R150). -/
def responseArms (i : Instr) (b : Byte) (data eot : DispatchRow) : Prop :=
  (i, b, data, eot) = (.ack, ACK, .awaitAckAck, .awaitEotAckAck) ∨
  (i, b, data, eot) = (.nak, NAK, .awaitAckNak, .awaitEotAckNak) ∨
  isNoise b = true ∧ (i, data, eot) = (.noise b, .awaitAckNoise b, .awaitEotAckNoise b)

theorem responseArms_noise {b : Byte} (hack : b ≠ ACK) (hnak : b ≠ NAK) :
    responseArms (.noise b) b (.awaitAckNoise b) (.awaitEotAckNoise b) :=
  .inr (.inr ⟨isNoise_iff.2 ⟨hack, hnak⟩, rfl⟩)

section Response

variable {i : Instr} {b : Byte} {data eot : DispatchRow} (hi : responseArms i b data eot)
include hi

/-- The two arms are taken where their window is open and the byte is the answer. -/
theorem rowTaken_responseArms (s : State) :
    (rowTaken data s ↔ s.st = .awaitAck ∧ rxAnswer s = .byte b) ∧
      (rowTaken eot s ↔ s.st = .awaitEotAck ∧ rxAnswer s = .byte b) := by
  obtain hi | hi | ⟨hb, hi⟩ := hi <;> cases hi
  · exact ⟨.rfl, .rfl⟩
  · exact ⟨.rfl, .rfl⟩
  · simp [rowTaken, hb]

/-- A response row has the effects of its two arms. -/
theorem exec_responseArms (s : State) : exec i s = respond b (rowEffect data s) (rowEffect eot s) s := by
  obtain hi | hi | ⟨hb, hi⟩ := hi <;> cases hi
  · rfl
  · rfl
  · exact require_pos hb

/-- In a data window a response row is its arm there. -/
theorem exec_response_of_awaitAck {s : State} (hst : s.st = .awaitAck) : exec i s = exec data.toInstr s := by
  have htaken : rowTaken data s ↔ rxAnswer s = .byte b := (rowTaken_responseArms hi s).1.trans (and_iff_right hst)
  rw [exec_responseArms hi, respond, hst, ← runRow_eq_exec, runRow_eq_require htaken]

/-- In an `EOT` window a response row is its arm there. -/
theorem exec_response_of_awaitEotAck {s : State} (hst : s.st = .awaitEotAck) :
    exec i s = exec eot.toInstr s := by
  have htaken : rowTaken eot s ↔ rxAnswer s = .byte b := (rowTaken_responseArms hi s).2.trans (and_iff_right hst)
  rw [exec_responseArms hi, respond, hst, ← runRow_eq_exec, runRow_eq_require htaken]

/-- With no window open the byte stays unread (R62). -/
theorem exec_response_of_windowClosed {s : State} (hw : windowOpen s = false) : exec i s = .next s := by
  rw [exec_responseArms hi, respond]
  cases hst : s.st <;> simp [windowOpen, hst] at hw ⊢

end Response

/-- Settles O29: no window is open. -/
theorem responseOutsideAWindowStaysUnread : Obligations.ResponseOutsideAWindowStaysUnread := fun _ hw =>
  ⟨exec_response_of_windowClosed (.inl rfl) hw, exec_response_of_windowClosed (.inr (.inl rfl)) hw,
    fun _ hack hnak => exec_response_of_windowClosed (responseArms_noise hack hnak) hw⟩

/-- Settles O28: in its window a response row is its arm, and the arm of the answer goes on. -/
theorem responseTakesTheArmOfTheOpenWindow : Obligations.ResponseTakesTheArmOfTheOpenWindow := by
  have hack : responseArms .ack ACK .awaitAckAck .awaitEotAckAck := .inl rfl
  have hnak : responseArms .nak NAK .awaitAckNak .awaitEotAckNak := .inr (.inl rfl)
  refine fun s => ⟨fun hst => ⟨fun hrx => ?_, fun hrx => ?_, fun b hb hb' hrx => ?_⟩,
    fun hst => ⟨fun hrx => ?_, fun hrx => ?_, fun b hb hb' hrx => ?_⟩⟩
  · rw [exec_response_of_awaitAck hack hst]
    exact ⟨_, require_pos ⟨hst, hrx⟩, require_pos ⟨hst, hrx⟩⟩
  · rw [exec_response_of_awaitAck hnak hst]
    exact ⟨_, require_pos ⟨hst, hrx⟩, require_pos ⟨hst, hrx⟩⟩
  · rw [exec_response_of_awaitAck (responseArms_noise hb hb') hst]
    obtain ⟨ht, -⟩ := exec_noise (isNoise_iff.2 ⟨hb, hb'⟩) hrx (.inl ⟨rfl, hst⟩)
    exact ⟨_, ht, ht⟩
  · rw [exec_response_of_awaitEotAck hack hst]
    exact ⟨_, require_pos ⟨hst, hrx⟩, require_pos ⟨hst, hrx⟩⟩
  · rw [exec_response_of_awaitEotAck hnak hst]
    exact ⟨_, require_pos ⟨hst, hrx⟩, require_pos ⟨hst, hrx⟩⟩
  · rw [exec_response_of_awaitEotAck (responseArms_noise hb hb') hst]
    obtain ⟨ht, -⟩ := exec_noise (isNoise_iff.2 ⟨hb, hb'⟩) hrx (.inr ⟨rfl, hst⟩)
    exact ⟨_, ht, ht⟩

/-! ### The items of TX (R81, R82) -/

/-- A frame is about to go out in SEND_BLOCK, as the one it builds, or in RETRY within the limit, as the one in `FB`. -/
theorem frameToEmit_eq_some {s : State} {F : List Byte} (h : frameToEmit s = some F) :
    s.st = .sendBlock ∨ s.st = .retry ∧ s.err ≤ s.cfg.maxRetry := by
  unfold frameToEmit at h
  cases hst : s.st <;> simp only [hst] at h
  case sendBlock => exact .inl rfl
  case retry =>
    split at h
    · cases h
    next hlimit => exact .inr ⟨rfl, by simpa [retriesExhausted] using hlimit⟩
  all_goals cases h

theorem frameToEmit_of_sendBlock {s : State} (hst : s.st = .sendBlock) :
    frameToEmit s = (imageRead s.len s.img s.off (chunkLen s.len s.off)).map (encodeFrame s.seq) := by
  simp [frameToEmit, hst]

theorem frameToEmit_of_retry {s : State} (hst : s.st = .retry) (herr : s.err ≤ s.cfg.maxRetry) :
    frameToEmit s = frameInBuffer s := by
  simp [frameToEmit, hst, retriesExhausted, Nat.not_lt.2 herr]

theorem frameToEmit_eq_none {s : State} (hsend : s.st ≠ .sendBlock) (hretry : s.st ≠ .retry) :
    frameToEmit s = none := by
  cases hF : frameToEmit s with
  | none => rfl
  | some F =>
    rcases frameToEmit_eq_some hF with hst | ⟨hst, -⟩
    · exact absurd hst hsend
    · exact absurd hst hretry

section Data

variable {s : State} {seq cseq chk : Byte} {payload : List Byte}
  (hF : frameToEmit s = some (dataFrame seq cseq payload chk))
include hF

/-- The row DATA of the frame about to go out is SEND_BLOCK there. -/
theorem exec_data_of_sendBlock (hst : s.st = .sendBlock) :
    exec (.data seq cseq payload chk) s = exec .sendBlock s := by
  have hemit : exec (.data seq cseq payload chk) s = emitEffect s := require_pos hF
  have hsend : exec .sendBlock s = sendBlockEffect s := require_pos hst
  rw [hemit, hsend, emitEffect, if_pos hst]

/-- The row DATA of the frame about to go out is RETRY.RESEND there. -/
theorem exec_data_of_retry (hst : s.st = .retry) (herr : s.err ≤ s.cfg.maxRetry) :
    exec (.data seq cseq payload chk) s = exec .retryResend s := by
  have hemit : exec (.data seq cseq payload chk) s = emitEffect s := require_pos hF
  have hresend : exec .retryResend s = resendEffect s := require_pos ⟨hst, herr⟩
  rw [hemit, hresend, emitEffect, if_neg (by simp [hst])]

end Data

/-- Settles O30: the frame of the row is the one about to go out, so that the row is the step that emits it; else its
`require` fails. -/
theorem dataFrameIsEmittedBySendBlockOrRetry : Obligations.DataFrameIsEmittedBySendBlockOrRetry := by
  intro s seq cseq chk payload
  refine ⟨fun c hst hread hframe => ?_, fun hst herr hfb => ?_, fun hF => require_neg hF, frameToEmit_eq_none⟩
  · have hF : frameToEmit s = some (dataFrame seq cseq payload chk) := by
      have hread' : imageRead s.len s.img s.off (chunkLen s.len s.off) = some c := hread
      rw [frameToEmit_of_sendBlock hst, hread', hframe, Option.map_some]
    obtain ⟨t, ht⟩ := exec_sendBlock_next hst hread
    refine ⟨t, (exec_data_of_sendBlock hF hst).trans ht, ht, fun ha => ?_⟩
    obtain ⟨-, -, -, htx, -⟩ := sendBlock_of_ok (runRow_next ht) hread ha
    rw [htx, hframe]
  · have hF : frameToEmit s = some (dataFrame seq cseq payload chk) := (frameToEmit_of_retry hst herr).trans hfb
    obtain ⟨t, ht⟩ := exec_retryResend_next hst herr hfb
    refine ⟨t, (exec_data_of_retry hF hst herr).trans ht, ht, fun ha => ?_⟩
    obtain ⟨-, -, -, htx, -⟩ := resend_of_ok (runRow_next ht) hfb ha
    exact htx

/-- Settles O31: the row EOT is SEND_EOT, behind the same `require`. -/
theorem eotByteIsEmittedBySendEot : Obligations.EotByteIsEmittedBySendEot := by
  refine fun s => ⟨fun hst => ?_, require_neg⟩
  have ht : exec .sendEot s = .next (sendEotEffect s) := require_pos hst
  refine ⟨_, require_pos hst, ht, fun ha => ?_⟩
  obtain ⟨-, -, htx, -⟩ := sendEot_of_ok (runRow_next ht) ha
  exact htx

/-! ### What any instruction can do -/

/-- The outcomes of the instructions: RESET, START accepted and refused, NOCMD as a row of the table with the sample
spent, the dispatch and TX rows as a row of the table, a response byte left unread, a pure function. -/
inductive InstrStep (s : State) : Instr → State → Prop
  | reset : InstrStep s .reset (resetEffect (popCommand s))
  | start (L : Nat) : InstrStep s .start (startEffect L (popCommand s))
  | startRefused : InstrStep s .startRefused (popCommand s)
  | nocmd {r : DispatchRow} {t : State} (row : RowStep (popCommand s) r t) : InstrStep s .nocmd t
  | row {i : Instr} {r : DispatchRow} {t : State} (row : RowStep s r t) : InstrStep s i t
  | unread {i : Instr} : InstrStep s i s
  | func {i : Instr} (r : FuncResult) : InstrStep s i { s with fres := some r }

theorem exec_row_next {r : DispatchRow} {s t : State} (h : exec r.toInstr s = .next t) : RowStep s r t :=
  runRow_next ((runRow_eq_exec r s).trans h)

/-- A response row is a row of the table, or leaves the byte unread. -/
theorem exec_response_next {i : Instr} {b : Byte} {data eot : DispatchRow} {s t : State}
    (hi : responseArms i b data eot) (h : exec i s = .next t) : InstrStep s i t := by
  cases hw : windowOpen s with
  | false =>
    cases (exec_response_of_windowClosed hi hw).symm.trans h
    exact .unread
  | true =>
    cases hst : s.st
    case awaitAck => exact .row (exec_row_next ((exec_response_of_awaitAck hi hst).symm.trans h))
    case awaitEotAck => exact .row (exec_row_next ((exec_response_of_awaitEotAck hi hst).symm.trans h))
    all_goals simp [windowOpen, hst] at hw

/-- The row DATA is the row of the table that emits the frame. -/
theorem exec_data_next {seq cseq chk : Byte} {payload : List Byte} {s t : State}
    (h : exec (.data seq cseq payload chk) s = .next t) : InstrStep s (.data seq cseq payload chk) t := by
  obtain ⟨hF, -⟩ := require_eq_next.1 h
  rcases frameToEmit_eq_some hF with hst | ⟨hst, herr⟩
  · exact .row (exec_row_next (r := .sendBlock) ((exec_data_of_sendBlock hF hst).symm.trans h))
  · exact .row (exec_row_next (r := .retryResend) ((exec_data_of_retry hF hst herr).symm.trans h))

/-- An instruction that answers a next state took one of the listed outcomes. -/
theorem exec_next {i : Instr} {s t : State} (h : exec i s = .next t) : InstrStep s i t := by
  cases i
  case reset => cases (require_eq_next.1 h).2; exact .reset
  case start => cases (require_eq_next.1 h).2; exact .start _
  case startRefused => cases (require_eq_next.1 h).2; exact .startRefused
  case nocmd => exact .nocmd (runRow_next (require_eq_next.1 h).2)
  case awaitStart => exact .row (exec_row_next (r := .awaitStart) h)
  case sendBlock => exact .row (exec_row_next (r := .sendBlock) h)
  case awaitAckAck => exact .row (exec_row_next (r := .awaitAckAck) h)
  case awaitAckNak => exact .row (exec_row_next (r := .awaitAckNak) h)
  case awaitAckTimeout => exact .row (exec_row_next (r := .awaitAckTimeout) h)
  case retryFail => exact .row (exec_row_next (r := .retryFail) h)
  case retryResend => exact .row (exec_row_next (r := .retryResend) h)
  case done => exact .row (exec_row_next (r := .done) h)
  case failed => exact .row (exec_row_next (r := .failed) h)
  case sendEot => exact .row (exec_row_next (r := .sendEot) h)
  case awaitEotAckAck => exact .row (exec_row_next (r := .awaitEotAckAck) h)
  case awaitEotAckNak => exact .row (exec_row_next (r := .awaitEotAckNak) h)
  case awaitEotAckTimeout => exact .row (exec_row_next (r := .awaitEotAckTimeout) h)
  case awaitAckNoise b => exact .row (exec_row_next (r := .awaitAckNoise b) h)
  case awaitEotAckNoise b => exact .row (exec_row_next (r := .awaitEotAckNoise b) h)
  case data => exact exec_data_next h
  case eot => exact .row (exec_row_next (r := .sendEot) h)
  case ack => exact exec_response_next (.inl rfl) h
  case nak => exact exec_response_next (.inr (.inl rfl)) h
  case noise => exact exec_response_next (.inr (.inr ⟨(require_eq_next.1 h).1, rfl⟩)) h
  case seqnext | cseq | padblk | chk | chunklen | nblocks | encode | verify | decode | verifyseq =>
    obtain ⟨r, hr⟩ := exec_func_next rfl h
    cases (hr s).symm.trans h
    exact .func r

/-- Settles O48: no outcome of an instruction updates the configuration or the image. -/
theorem noInstructionWritesTheImageOrCfg : Obligations.NoInstructionWritesTheImageOrCfg := by
  intro i s t h
  cases exec_next h with
  | nocmd row => exact row.hostInputsUnchanged
  | row row => exact row.hostInputsUnchanged
  | reset | start | startRefused | unread | func => exact ⟨rfl, fun _ => rfl⟩

/-- A row taken in another state than `SEND_BLOCK` leaves `FB` alone (R54). -/
theorem RowStep.fb_eq {s t : State} {r : DispatchRow} (h : RowStep s r t) (hst : s.st ≠ .sendBlock) : t.fb = s.fb := by
  cases h
  case sendOk st _ _ => exact absurd st hst
  case sendFail st _ _ => exact absurd st hst
  all_goals rfl

/-- Settles O49: of all the outcomes only RESET and the SEND_BLOCK row write `FB`. -/
theorem frameBufferIsWrittenBySendBlockOnly : Obligations.FrameBufferIsWrittenBySendBlockOnly := by
  intro i s t h hi hst a
  cases exec_next h with
  | reset => exact absurd rfl hi
  | nocmd row => rw [row.fb_eq hst, popCommand_fb]
  | row row => rw [row.fb_eq hst]
  | start | startRefused | unread | func => rfl

/-! ### START, MemRead and the record -/

/-- Settles O12: START's effect field by field; the entry it makes in the record shows on no stream. -/
theorem startLatchesTheLength : Obligations.StartLatchesTheLength := by
  intro s hword hst
  have ht : exec .start s = .next (startEffect (command s).len (popCommand s)) := require_pos ⟨hword, hst⟩
  have htrace : (startEffect (command s).len (popCommand s)).trace = s.trace ++ [.start (command s).len] := rfl
  have hwrites : OnlyWrites [.ST, .LEN] s (startEffect (command s).len (popCommand s)) := by
    simp [onlyWrites_iff, startEffect]
  have hbusy : busy (startEffect (command s).len (popCommand s)) = true ∧
      (startEffect (command s).len (popCommand s)).timer = none := by
    by_cases hL : (command s).len = 0 <;> simp [startEffect, busy, timerFor, hL]
  have htx := (txStream_append htrace).trans (List.append_nil _)
  have hprogress := (progressStream_append htrace).trans (List.append_nil _)
  have hevents := (eventStream_append htrace).trans (List.append_nil _)
  exact ⟨_, ht, rfl, rfl, rfl, hwrites, hbusy.1, hbusy.2, ⟨htx, rfl, rfl, rfl, hprogress⟩, hevents, rfl, fun _ => rfl⟩

/-- Settles O16: SEND_BLOCK's effect goes on only where the image gives the chunk. -/
theorem readOutsideTheImageIsRefused : Obligations.ReadOutsideTheImageIsRefused := by
  intro s hst hread
  have hexec : exec .sendBlock s = sendBlockEffect s := require_pos hst
  rcases sendBlockEffect_cases s with ⟨t, ht⟩ | ⟨-, hstop⟩
  · obtain ⟨c, hc, -⟩ := sendBlockEffect_eq_next.1 ht
    cases hread.symm.trans hc
  · exact hexec.trans hstop

theorem imageRead_eq_memRead {L a n : Nat} (h : a + n ≤ L) (img : Memory) : imageRead L img a n = memRead img a n :=
  if_pos h

/-- Settles O17: each byte of the range holds a value, so the read of the memory succeeds and gives them. -/
theorem memReadGivesTheImageBytesInOrder : Obligations.MemReadGivesTheImageBytesInOrder := by
  intro L a n img hL himg
  have hsome : (memRead img a n).isSome := memRead_isSome fun c _ hc => himg c (by omega)
  obtain ⟨bs, hbs⟩ := Option.isSome_iff_exists.1 hsome
  obtain ⟨hlen, hbytes⟩ := (memRead_eq_some img n a bs).1 hbs
  exact ⟨bs, (imageRead_eq_memRead hL img).trans hbs, hlen, fun i hi => (hbytes i hi).symm⟩

end Sys2Proof.Machine
end

section
/-! The record of every row that has a port operation or an event (R64, R198), and O21. -/
namespace Sys2Proof.Machine

/-! ### The rows that transmit: the write, then the flush or the fatal event (R133) -/

theorem trace_of_sendBlock {s t : State} {c : List Byte} (h : RowStep s .sendBlock t)
    (hread : imageRead s.len s.img s.off (chunkLen s.len s.off) = some c) :
    (txAnswer s = .ok → t.trace = s.trace ++ [.memRead s.off (chunkLen s.len s.off),
      .memWrite 0 (encodeFrame s.seq c), .txOk (encodeFrame s.seq c), .txFlush]) ∧
    (∀ k j, txAnswer s = .fail k j → t.trace = s.trace ++ [.memRead s.off (chunkLen s.len s.off),
      .memWrite 0 (encodeFrame s.seq c), .txFail (encodeFrame s.seq c) k, .raised .txFault]) := by
  cases h with
  | sendOk c' st read tx =>
    cases hread.symm.trans read
    exact ⟨fun _ => rfl, fun _ _ ha => nomatch ha.symm.trans tx⟩
  | sendFail c' k j st read tx =>
    cases hread.symm.trans read
    exact ⟨fun ha => (nomatch ha.symm.trans tx), fun _ _ ha => by cases ha.symm.trans tx; rfl⟩

theorem trace_of_retryResend {s t : State} {F : List Byte} (h : RowStep s .retryResend t)
    (hF : frameInBuffer s = some F) :
    (txAnswer s = .ok → t.trace = s.trace ++ [.txOk F, .txFlush]) ∧
    (∀ k j, txAnswer s = .fail k j → t.trace = s.trace ++ [.txFail F k, .raised .txFault]) := by
  cases h with
  | resendOk F' st err fb tx =>
    cases hF.symm.trans fb
    exact ⟨fun _ => rfl, fun _ _ ha => nomatch ha.symm.trans tx⟩
  | resendFail F' k j st err fb tx =>
    cases hF.symm.trans fb
    exact ⟨fun ha => (nomatch ha.symm.trans tx), fun _ _ ha => by cases ha.symm.trans tx; rfl⟩

theorem trace_of_sendEot {s t : State} (h : RowStep s .sendEot t) :
    (txAnswer s = .ok → t.trace = s.trace ++ [.txOk [EOT], .txFlush]) ∧
    (∀ k j, txAnswer s = .fail k j → t.trace = s.trace ++ [.txFail [EOT] k, .raised .txFault]) := by
  cases h with
  | eotOk st tx => exact ⟨fun _ => rfl, fun _ _ ha => nomatch ha.symm.trans tx⟩
  | eotFail k j st tx => exact ⟨fun ha => (nomatch ha.symm.trans tx), fun _ _ ha => by cases ha.symm.trans tx; rfl⟩

/-! ### The arms of the windows: the read, then the events (R151 to R160, R198) -/

theorem trace_of_noise {s t : State} {b : Byte}
    (h : RowStep s (.awaitAckNoise b) t ∨ RowStep s (.awaitEotAckNoise b) t) :
    t.trace = s.trace ++ [.rxRead (.byte b), .raised .noise] := by
  rcases h with h | h
  · cases h with | noise _ st rx noise => exact rx ▸ rfl
  · cases h with | eotNoise _ st rx noise => exact rx ▸ rfl

/-- A failed `EOT` attempt: its event, and past the limit the fatal one second. -/
theorem trace_of_failedEot {s : State} {a : RxAnswer} (e : ErrorEvent) (hrx : rxAnswer s = a) :
    (failedEotEffect e s).trace = s.trace ++ [.rxRead a, .raised e] ++
      (if s.eerr + 1 > s.cfg.eotMaxRetry then [.raised .eotExhausted] else []) := by
  by_cases hlimit : s.eerr + 1 > s.cfg.eotMaxRetry
  · rw [(failedEotEffect_past hlimit).2, if_pos hlimit, hrx, List.append_assoc]; rfl
  · rw [(failedEotEffect_within (Nat.not_lt.1 hlimit)).2, if_neg hlimit, hrx, List.append_nil]

/-- Settles O21: the record of each row, one lemma or one effect at a time. -/
theorem portOperationsHappenInPseudocodeOrder : Obligations.PortOperationsHappenInPseudocodeOrder := by
  refine ⟨fun s t c hread h => trace_of_sendBlock (exec_row_next h) hread,
    fun s t F hF h => trace_of_retryResend (exec_row_next h) hF, fun s t h => trace_of_sendEot (exec_row_next h),
    fun s t h => ?_, fun s t h => ?_, fun s t h => ?_, fun s t h => ?_, fun s t b h => ?_, fun s t h => ?_,
    fun s t h => ?_, fun s t h => ?_⟩
  · cases exec_row_next (r := .retryFail) h; rfl
  · cases exec_row_next (r := .awaitAckAck) h with
    | ackMore st rx off | ackLast st rx off => exact rx ▸ rfl
  · cases exec_row_next (r := .awaitAckNak) h with | nak st rx => exact rx ▸ rfl
  · cases exec_row_next (r := .awaitAckTimeout) h with | timeout st rx => exact rx ▸ rfl
  · exact trace_of_noise (h.imp (exec_row_next (r := .awaitAckNoise b)) (exec_row_next (r := .awaitEotAckNoise b)))
  · cases exec_row_next (r := .awaitEotAckAck) h with | finalAck st rx => exact rx ▸ rfl
  · obtain ⟨⟨-, hrx⟩, hnext⟩ := require_eq_next.1 h
    cases hnext
    exact trace_of_failedEot .nak hrx
  · obtain ⟨⟨-, hrx⟩, hnext⟩ := require_eq_next.1 h
    cases hnext
    exact trace_of_failedEot .timeout hrx

end Sys2Proof.Machine
end

section
/-! The session invariant (R36), split into what holds in every state and what holds at each value of `ST`. -/
namespace Sys2Proof.Safety

open Sys2Proof.Machine

/-! ### The invariant by `ST` -/

/-- The items of R36 that speak of every state: `SEQ`, `TOTAL`, `LEN`, the timer, the memories. -/
structure BaseInv (s : State) : Prop where
  seq : s.seq.toNat = (1 + s.succ) % 256
  total : s.total = s.succ + s.errtot + (if s.st = .awaitAck then 1 else 0)
  held : s.st ≠ .awaitStart → s.lenHeld = true
  timer : s.timer = timerFor s.cfg s.st
  memories : Memory.wf s.img ∧ Memory.wf s.fb

/-- A block is in flight (R36 item 4): it is block `SUCC + 1` of the image, and `FB` holds its frame. -/
structure BlockInFlight (s : State) : Prop where
  started : BLOCK * s.succ < s.len
  off : s.off = min s.len (BLOCK * (s.succ + 1))
  frame : ∃ c, chunkInFlight s = some c ∧ frameInBuffer s = some (encodeFrame s.seq c)

/-- What R36 says at each value of `ST`. -/
def PhaseInv (s : State) : Prop :=
  match s.st with
  | .awaitStart => s.err = 0 ∧ s.eerr = 0 ∧ s.succ = 0 ∧ s.errtot = 0 ∧ s.off = 0 ∧ s.lenHeld = false ∧ s.fb = []
  | .sendBlock => s.off = BLOCK * s.succ ∧ s.off < s.len ∧ s.eerr = 0
  | .awaitAck => BlockInFlight s ∧ s.err ≤ s.cfg.maxRetry ∧ s.eerr = 0 ∧ s.txPend = []
  | .retry => BlockInFlight s ∧ 1 ≤ s.err ∧ s.err ≤ s.cfg.maxRetry + 1 ∧ s.eerr = 0
  | .sendEot => s.off = s.len ∧ s.succ = nBlocks s.len ∧ s.eerr ≤ s.cfg.eotMaxRetry
  | .awaitEotAck => s.off = s.len ∧ s.succ = nBlocks s.len ∧ s.eerr ≤ s.cfg.eotMaxRetry ∧ s.txPend = []
  | .done => s.off = s.len ∧ s.succ = nBlocks s.len
  | .failed => True

theorem phaseInv_awaitStart {s : State} (h : s.st = .awaitStart) :
    PhaseInv s ↔ s.err = 0 ∧ s.eerr = 0 ∧ s.succ = 0 ∧ s.errtot = 0 ∧ s.off = 0 ∧ s.lenHeld = false ∧ s.fb = [] := by
  simp only [PhaseInv, h]

theorem phaseInv_sendBlock {s : State} (h : s.st = .sendBlock) :
    PhaseInv s ↔ s.off = BLOCK * s.succ ∧ s.off < s.len ∧ s.eerr = 0 := by
  simp only [PhaseInv, h]

theorem phaseInv_awaitAck {s : State} (h : s.st = .awaitAck) :
    PhaseInv s ↔ BlockInFlight s ∧ s.err ≤ s.cfg.maxRetry ∧ s.eerr = 0 ∧ s.txPend = [] := by
  simp only [PhaseInv, h]

theorem phaseInv_retry {s : State} (h : s.st = .retry) :
    PhaseInv s ↔ BlockInFlight s ∧ 1 ≤ s.err ∧ s.err ≤ s.cfg.maxRetry + 1 ∧ s.eerr = 0 := by
  simp only [PhaseInv, h]

theorem phaseInv_sendEot {s : State} (h : s.st = .sendEot) :
    PhaseInv s ↔ s.off = s.len ∧ s.succ = nBlocks s.len ∧ s.eerr ≤ s.cfg.eotMaxRetry := by
  simp only [PhaseInv, h]

theorem phaseInv_awaitEotAck {s : State} (h : s.st = .awaitEotAck) :
    PhaseInv s ↔ s.off = s.len ∧ s.succ = nBlocks s.len ∧ s.eerr ≤ s.cfg.eotMaxRetry ∧ s.txPend = [] := by
  simp only [PhaseInv, h]

theorem phaseInv_done {s : State} (h : s.st = .done) : PhaseInv s ↔ s.off = s.len ∧ s.succ = nBlocks s.len := by
  simp only [PhaseInv, h]

theorem phaseInv_failed {s : State} (h : s.st = .failed) : PhaseInv s := by
  simp only [PhaseInv, h]

theorem BlockInFlight.frameInFlight {s : State} (h : BlockInFlight s) :
    (chunkInFlight s).isSome ∧ frameInBuffer s = (chunkInFlight s).map (encodeFrame s.seq) := by
  obtain ⟨c, hc, hF⟩ := h.frame
  rw [hc, hF]
  exact ⟨rfl, rfl⟩

theorem SessionInv.base {s : State} (h : SessionInv s) : BaseInv s :=
  ⟨h.seqIsSuccPlusOne, h.totalCounts, h.lenLatched, h.timerFollowsSt, h.memoriesCanonical⟩

theorem SessionInv.inFlight {s : State} (h : SessionInv s) (hst : s.st = .awaitAck ∨ s.st = .retry) :
    BlockInFlight s := by
  obtain ⟨hstarted, hoff⟩ := h.blockInFlight hst
  obtain ⟨hsome, hframe⟩ := h.frameInFlight hst
  obtain ⟨c, hc⟩ := Option.isSome_iff_exists.1 hsome
  exact ⟨hstarted, hoff, c, hc, by rw [hframe, hc, Option.map_some]⟩

theorem SessionInv.phase {s : State} (h : SessionInv s) : PhaseInv s := by
  cases hst : s.st with
  | awaitStart => exact (phaseInv_awaitStart hst).2 (h.idleIsFresh hst)
  | sendBlock =>
    obtain ⟨hoff, hlen⟩ := h.blockAhead hst
    exact (phaseInv_sendBlock hst).2 ⟨hoff, hlen, h.noEotErrorYet (.inl hst)⟩
  | awaitAck =>
    exact (phaseInv_awaitAck hst).2 ⟨h.inFlight (.inl hst), h.errInWindow hst, h.noEotErrorYet (.inr (.inl hst)),
      h.flushedBeforeRead (by simp [windowOpen, hst])⟩
  | retry =>
    obtain ⟨hpos, hlimit⟩ := h.errInRetry hst
    exact (phaseInv_retry hst).2 ⟨h.inFlight (.inr hst), hpos, hlimit, h.noEotErrorYet (.inr (.inr hst))⟩
  | sendEot =>
    obtain ⟨hoff, hsucc⟩ := h.allAcknowledged (.inl hst)
    exact (phaseInv_sendEot hst).2 ⟨hoff, hsucc, h.eotErrBounded (.inl hst)⟩
  | awaitEotAck =>
    obtain ⟨hoff, hsucc⟩ := h.allAcknowledged (.inr (.inl hst))
    exact (phaseInv_awaitEotAck hst).2 ⟨hoff, hsucc, h.eotErrBounded (.inr hst),
      h.flushedBeforeRead (by simp [windowOpen, hst])⟩
  | done => exact (phaseInv_done hst).2 (h.allAcknowledged (.inr (.inr hst)))
  | failed => exact phaseInv_failed hst

theorem PhaseInv.inFlight {s : State} (h : PhaseInv s) (hst : s.st = .awaitAck ∨ s.st = .retry) :
    BlockInFlight s := by
  rcases hst with hst | hst
  · exact ((phaseInv_awaitAck hst).1 h).1
  · exact ((phaseInv_retry hst).1 h).1

theorem PhaseInv.acknowledged {s : State} (h : PhaseInv s)
    (hst : s.st = .sendEot ∨ s.st = .awaitEotAck ∨ s.st = .done) : s.off = s.len ∧ s.succ = nBlocks s.len := by
  rcases hst with hst | hst | hst
  · obtain ⟨hoff, hsucc, -⟩ := (phaseInv_sendEot hst).1 h
    exact ⟨hoff, hsucc⟩
  · obtain ⟨hoff, hsucc, -⟩ := (phaseInv_awaitEotAck hst).1 h
    exact ⟨hoff, hsucc⟩
  · exact (phaseInv_done hst).1 h

theorem PhaseInv.eerr_le {s : State} (h : PhaseInv s) (hst : s.st = .sendEot ∨ s.st = .awaitEotAck) :
    s.eerr ≤ s.cfg.eotMaxRetry := by
  rcases hst with hst | hst
  · obtain ⟨-, -, heerr⟩ := (phaseInv_sendEot hst).1 h
    exact heerr
  · obtain ⟨-, -, heerr, -⟩ := (phaseInv_awaitEotAck hst).1 h
    exact heerr

theorem PhaseInv.eerr_eq_zero {s : State} (h : PhaseInv s)
    (hst : s.st = .sendBlock ∨ s.st = .awaitAck ∨ s.st = .retry) : s.eerr = 0 := by
  rcases hst with hst | hst | hst
  · obtain ⟨-, -, heerr⟩ := (phaseInv_sendBlock hst).1 h
    exact heerr
  · obtain ⟨-, -, heerr, -⟩ := (phaseInv_awaitAck hst).1 h
    exact heerr
  · obtain ⟨-, -, -, heerr⟩ := (phaseInv_retry hst).1 h
    exact heerr

theorem PhaseInv.flushed {s : State} (h : PhaseInv s) (hw : windowOpen s = true) : s.txPend = [] := by
  cases hst : s.st
  case awaitAck =>
    obtain ⟨-, -, -, hpend⟩ := (phaseInv_awaitAck hst).1 h
    exact hpend
  case awaitEotAck =>
    obtain ⟨-, -, -, hpend⟩ := (phaseInv_awaitEotAck hst).1 h
    exact hpend
  all_goals simp [windowOpen, hst] at hw

/-- The two parts together are the invariant. -/
theorem sessionInv_of_base_phase {s : State} (hb : BaseInv s) (hp : PhaseInv s) : SessionInv s where
  seqIsSuccPlusOne := hb.seq
  totalCounts := hb.total
  idleIsFresh hst := (phaseInv_awaitStart hst).1 hp
  lenLatched := hb.held
  blockAhead hst := by
    obtain ⟨hoff, hlen, -⟩ := (phaseInv_sendBlock hst).1 hp
    exact ⟨hoff, hlen⟩
  blockInFlight hst := ⟨(hp.inFlight hst).started, (hp.inFlight hst).off⟩
  frameInFlight hst := (hp.inFlight hst).frameInFlight
  allAcknowledged := hp.acknowledged
  errInWindow hst := by
    obtain ⟨-, herr, -⟩ := (phaseInv_awaitAck hst).1 hp
    exact herr
  errInRetry hst := by
    obtain ⟨-, hpos, hlimit, -⟩ := (phaseInv_retry hst).1 hp
    exact ⟨hpos, hlimit⟩
  eotErrBounded := hp.eerr_le
  noEotErrorYet := hp.eerr_eq_zero
  timerFollowsSt := hb.timer
  flushedBeforeRead := hp.flushed
  memoriesCanonical := hb.memories

end Sys2Proof.Safety
end

section
/-! Every step keeps the session invariant: the part of every state and the part of each `ST`, row by row; O52. -/
namespace Sys2Proof.Machine

open Sys2Proof.Safety

/-! ### Blocks and offsets (R115) -/

theorem lt_nBlocks_iff {L n : Nat} : n < nBlocks L ↔ BLOCK * n < L := by
  rw [← Nat.not_le, nBlocks_le_iff, Nat.not_le]

/-- From the start of a block, the chunk ends where the block or the image ends. -/
theorem add_chunkLen {L n off : Nat} (hoff : off = BLOCK * n) (hlt : off < L) :
    off + chunkLen L off = min L (BLOCK * (n + 1)) := by
  simp only [chunkLen, BLOCK] at *; omega

/-- The block that ends with the image is the last one. -/
theorem succ_eq_nBlocks {L n : Nat} (hlt : BLOCK * n < L) (hend : L ≤ BLOCK * (n + 1)) : n + 1 = nBlocks L :=
  Nat.le_antisymm (lt_nBlocks_iff.2 hlt) (nBlocks_le_iff.2 hend)

/-- `SEQ` stays one ahead of `SUCC`, mod 256 (R36 item 1). -/
theorem seqNext_of_seq {seq : Byte} {n : Nat} (h : seq.toNat = (1 + n) % 256) :
    (seqNext seq).toNat = (1 + (n + 1)) % 256 := by
  rw [seqNext_toNat]; omega

/-! ### The part of every state -/

theorem RowStep.total_eq {s t : State} {r : DispatchRow} (h : RowStep s r t) (hb : BaseInv s) :
    t.total = t.succ + t.errtot + (if t.st = .awaitAck then 1 else 0) := by
  have htotal := hb.total
  cases h
  case noise | eotNoise => exact htotal
  all_goals simp_all <;> omega

theorem RowStep.timer_eq {s t : State} {r : DispatchRow} (h : RowStep s r t) (hb : BaseInv s) :
    t.timer = timerFor t.cfg t.st := by
  have htimer := hb.timer
  cases h
  case awaitStart | done | failed | noise | eotNoise => exact htimer
  all_goals rfl

theorem RowStep.keeps_baseInv {s t : State} {r : DispatchRow} (h : RowStep s r t) (hb : BaseInv s) : BaseInv t := by
  refine ⟨?_, h.total_eq hb, ?_, h.timer_eq hb, ?_⟩
  · cases h
    case ackMore | ackLast => exact seqNext_of_seq hb.seq
    all_goals exact hb.seq
  · cases h
    case awaitStart => exact hb.held
    all_goals exact fun _ => hb.held (by simp [*])
  · cases h
    case sendOk | sendFail => exact ⟨hb.memories.1, memWrite_wf _ _ _ hb.memories.2⟩
    all_goals exact hb.memories

/-! ### The part of each `ST` -/

/-- Once SEND_BLOCK has stored its frame, the block is in flight (R36 item 4). -/
theorem blockInFlight_of_sendBlock {s t : State} {c : List Byte} (hoff : s.off = BLOCK * s.succ) (hlen : s.off < s.len)
    (hread : imageRead s.len s.img s.off (chunkLen s.len s.off) = some c)
    (hfb : t.fb = memWrite s.fb 0 (encodeFrame s.seq c)) (hoff' : t.off = s.off + chunkLen s.len s.off)
    (hkeep : t.succ = s.succ ∧ t.len = s.len ∧ t.seq = s.seq ∧ t.img = s.img) : BlockInFlight t := by
  obtain ⟨hsucc, hlen', hseq, himg⟩ := hkeep
  have hF : (encodeFrame s.seq c).length = FRAME_LEN := encodeFrame_length_of_imageRead s.seq hread
  refine ⟨by rw [hsucc, hlen', ← hoff]; exact hlen, by rw [hoff', hlen', hsucc, add_chunkLen hoff hlen], c, ?_, ?_⟩
  · rw [chunkInFlight, himg, hsucc, hoff', ← hoff, Nat.add_sub_cancel_left]
    exact (imageRead_eq_some hread).2
  · rw [frameInBuffer, hfb, hseq, ← hF]
    exact memRead_memWrite_self _ _ _

theorem RowStep.keeps_phaseInv {s t : State} {r : DispatchRow} (h : RowStep s r t) (hp : PhaseInv s) :
    PhaseInv t := by
  cases h
  case awaitStart | done | failed => exact hp
  case sendFail | retryFail | resendFail | eotFail | eotNakLast | eotTimeoutLast => exact phaseInv_failed rfl
  case sendOk c st read tx =>
    obtain ⟨hoff, hlen, heerr⟩ := (phaseInv_sendBlock st).1 hp
    exact (phaseInv_awaitAck rfl).2 ⟨blockInFlight_of_sendBlock hoff hlen read rfl rfl ⟨rfl, rfl, rfl, rfl⟩,
      Nat.zero_le _, heerr, rfl⟩
  case resendOk F st err fb tx =>
    obtain ⟨hblock, -, -, heerr⟩ := (phaseInv_retry st).1 hp
    exact (phaseInv_awaitAck rfl).2 ⟨⟨hblock.started, hblock.off, hblock.frame⟩, err, heerr, rfl⟩
  case nak st rx | timeout st rx =>
    obtain ⟨hblock, herr, heerr, -⟩ := (phaseInv_awaitAck st).1 hp
    exact (phaseInv_retry rfl).2 ⟨⟨hblock.started, hblock.off, hblock.frame⟩, Nat.le_add_left 1 _,
      Nat.succ_le_succ herr, heerr⟩
  case noise b st rx noise =>
    obtain ⟨hblock, hrest⟩ := (phaseInv_awaitAck st).1 hp
    exact (phaseInv_awaitAck (by exact st)).2 ⟨⟨hblock.started, hblock.off, hblock.frame⟩, hrest⟩
  case ackMore st rx off =>
    obtain ⟨hblock, -, heerr, -⟩ := (phaseInv_awaitAck st).1 hp
    have hnext : s.off = BLOCK * (s.succ + 1) ∧ s.off < s.len := by have hoff := hblock.off; omega
    exact (phaseInv_sendBlock rfl).2 ⟨hnext.1, hnext.2, heerr⟩
  case ackLast st rx off =>
    obtain ⟨hblock, -, heerr, -⟩ := (phaseInv_awaitAck st).1 hp
    have hend : s.len ≤ BLOCK * (s.succ + 1) := by have hoff := hblock.off; omega
    exact (phaseInv_sendEot rfl).2 ⟨off, succ_eq_nBlocks hblock.started hend, heerr.trans_le (Nat.zero_le _)⟩
  case eotOk st tx =>
    obtain ⟨hoff, hsucc, heerr⟩ := (phaseInv_sendEot st).1 hp
    exact (phaseInv_awaitEotAck rfl).2 ⟨hoff, hsucc, heerr, rfl⟩
  case finalAck st rx => exact (phaseInv_done rfl).2 (hp.acknowledged (.inr (.inl st)))
  case eotNak st rx eerr | eotTimeout st rx eerr =>
    obtain ⟨hoff, hsucc⟩ := hp.acknowledged (.inr (.inl st))
    exact (phaseInv_sendEot rfl).2 ⟨hoff, hsucc, eerr⟩
  case eotNoise b st rx noise => exact (phaseInv_awaitEotAck (by exact st)).2 ((phaseInv_awaitEotAck st).1 hp)

theorem RowStep.keeps_sessionInv {s t : State} {r : DispatchRow} (h : RowStep s r t) (hs : SessionInv s) :
    SessionInv t :=
  sessionInv_of_base_phase (h.keeps_baseInv hs.base) (h.keeps_phaseInv hs.phase)

/-! ### Commands and reset -/

/-- The invariant does not speak of the samples of the command port. -/
theorem sessionInv_popCommand {s : State} (h : SessionInv s) : SessionInv (popCommand s) := { h with }

/-- RESET restores the registers the invariant begins with; the image is the host's. -/
theorem sessionInv_resetEffect {s : State} (himg : Memory.wf s.img) : SessionInv (resetEffect s) :=
  sessionInv_of_base_phase ⟨rfl, rfl, fun h => absurd rfl h, rfl, himg, .nil⟩
    ((phaseInv_awaitStart rfl).2 ⟨rfl, rfl, rfl, rfl, rfl, rfl, rfl⟩)

theorem sessionInv_reset : SessionInv State.reset :=
  sessionInv_of_base_phase ⟨rfl, rfl, fun h => absurd rfl h, rfl, reset_memories_wf⟩
    ((phaseInv_awaitStart rfl).2 ⟨rfl, rfl, rfl, rfl, rfl, rfl, rfl⟩)

/-- START begins the first block, or the `EOT` of an empty image (R130). -/
theorem sessionInv_startEffect {s : State} (L : Nat) (h : SessionInv s) (hst : s.st = .awaitStart) :
    SessionInv (startEffect L s) := by
  obtain ⟨-, heerr, hsucc, -, hoff, -, -⟩ := h.idleIsFresh hst
  have htotal : s.total = s.succ + s.errtot := by simpa [hst] using h.totalCounts
  by_cases hL : L = 0
  · have hst' : (startEffect L s).st = .sendEot := if_pos hL
    refine sessionInv_of_base_phase ⟨h.seqIsSuccPlusOne, ?_, fun _ => rfl, rfl, h.memoriesCanonical⟩
      ((phaseInv_sendEot hst').2 ⟨hoff.trans hL.symm, ?_, heerr.trans_le (Nat.zero_le _)⟩)
    · rw [hst']; exact htotal
    · exact hsucc.trans (by rw [← Nat.le_zero.1 (nBlocks_le_iff.2 (Nat.le_of_eq hL))]; rfl)
  · have hst' : (startEffect L s).st = .sendBlock := if_neg hL
    have hstart : s.off = BLOCK * s.succ := by rw [hoff, hsucc]; rfl
    refine sessionInv_of_base_phase ⟨h.seqIsSuccPlusOne, ?_, fun _ => rfl, rfl, h.memoriesCanonical⟩
      ((phaseInv_sendBlock hst').2 ⟨hstart, ?_, heerr⟩)
    · rw [hst']; exact htotal
    · exact hoff.trans_lt (Nat.pos_of_ne_zero hL)

/-- Settles O52: RESET and START establish the invariant of their phase, a refused START touches none of it, and every
row keeps it. -/
theorem everyStepKeepsTheSessionInvariant : Obligations.EveryStepKeepsTheSessionInvariant := by
  intro s t hs h
  have hpop : SessionInv (popCommand s) := sessionInv_popCommand hs
  rcases step_next_cases h with ⟨-, rfl⟩ | ⟨-, hst, rfl⟩ | ⟨-, -, rfl⟩ | ⟨-, hrow⟩
  · exact sessionInv_resetEffect hs.memoriesCanonical.1
  · exact sessionInv_startEffect _ hpop hst
  · exact hpop
  · exact hrow.keeps_sessionInv hpop

end Sys2Proof.Machine
end

section
/-! What the session invariant gives: no step stops (O53, O14), what goes out on TX (O54 to O56), the progress events
(O50). -/
namespace Sys2Proof.Machine

open Sys2Proof.Safety

/-! ### No step stops on the image the host owes (U2, U7) -/

/-- SEND_BLOCK's read lies in the image. -/
theorem imageRead_isSome {s : State} (hs : SessionInv s) (himg : imageCovers s) (hst : s.st = .sendBlock) :
    (imageRead s.len s.img s.off (chunkLen s.len s.off)).isSome := by
  obtain ⟨-, hlen⟩ := hs.blockAhead hst
  have hin : s.off + chunkLen s.len s.off ≤ s.len := by simp only [chunkLen]; omega
  rw [imageRead_eq_memRead hin]
  exact memRead_isSome fun c _ hc => himg c (by omega)

/-- Settles O53: of the two stops of a step, RETRY without a frame contradicts the invariant, and a read outside the
image contradicts the host's duty. -/
theorem noRunStopsOnAnImageTheHostOwes : Obligations.NoRunStopsOnAnImageTheHostOwes := by
  intro s hs
  rcases step_outcome_cases s with ⟨t, ht⟩ | ⟨hst, hread, ht⟩ | ⟨hst, hfb, -⟩
  · exact ⟨fun f hf => (nomatch ht.symm.trans hf), fun _ => ⟨t, ht⟩⟩
  · refine ⟨fun f hf => (nomatch ht.symm.trans hf), fun himg => ?_⟩
    have hsome := imageRead_isSome hs himg hst
    rw [hread] at hsome
    cases hsome
  · obtain ⟨c, -, hF⟩ := (hs.inFlight (.inr hst)).frame
    cases hfb.symm.trans hF

/-- Settles O14: NOCMD is the step, which goes on by the invariant and the host's duty; its effect is then what O42, O43
and O48 say of it. -/
theorem noCommandTakesTheSelectedStep : Obligations.NoCommandTakesTheSelectedStep := by
  intro s hs himg hword
  obtain ⟨t, ht⟩ := (noRunStopsOnAnImageTheHostOwes s hs).2 himg
  have hexec : exec .nocmd s = .next t := (step_of_nocmd hword).symm.trans ht
  exact ⟨exec_nocmd hword, t, hexec, stFollowsTheTransitionTable s t ht,
    stepsWriteOnlyTheirRowOfTheMatrix s t hword ht, noInstructionWritesTheImageOrCfg _ s t hexec⟩

/-! ### The frames (R54, R119) -/

/-- Settles O54: the invariant says which frame `FB` holds; RETRY.RESEND sends it and leaves it there. -/
theorem resentFrameIsTheOriginalFrame : Obligations.ResentFrameIsTheOriginalFrame := by
  intro s t hs hst _ ha h
  have hrow : RowStep s .retryResend t := exec_row_next h
  obtain ⟨c, hc, hF⟩ := (hs.inFlight (.inr hst)).frame
  obtain ⟨-, -, -, htx, -⟩ := resend_of_ok hrow hF ha
  refine ⟨c, hc, htx, ?_⟩
  rw [frameInBuffer, hrow.fb_eq (by simp [hst])]
  exact hF

/-- Settles O55: the frame is ENCODE of `SEQ`, which is `SUCC + 1` mod 256, and of the bytes read at `128 * SUCC`. -/
theorem blockKCarriesKMod256 : Obligations.BlockKCarriesKMod256 := by
  intro s t hs hst ha h
  obtain ⟨-, hnext⟩ := require_eq_next.1 h
  obtain ⟨c, hread, -⟩ := sendBlockEffect_eq_next.1 hnext
  have hrow : RowStep s .sendBlock t := exec_row_next h
  obtain ⟨hoff', -, -⟩ := sendBlock_stores hrow hread
  obtain ⟨-, -, -, htx, -⟩ := sendBlock_of_ok hrow hread ha
  obtain ⟨hoff, -⟩ := hs.blockAhead hst
  obtain ⟨hlen, hbytes⟩ := (memRead_eq_some _ _ _ _).1 (imageRead_eq_some hread).2
  have hseq : s.seq.toNat = (s.succ + 1) % 256 := by rw [hs.seqIsSuccPlusOne, Nat.add_comm]
  have hcseq : (cseqOf s.seq).toNat = 255 - (s.succ + 1) % 256 := by rw [cseqOf_toNat, hseq]
  refine ⟨encodeFrame s.seq c, htx, encodeFrame_length_of_imageRead s.seq hread, hseq, hcseq, fun i _ hi => ?_⟩
  have hic : i < c.length := by omega
  rw [encodeFrame_getElem?_chunk s.seq (hlen.trans_le (chunkLen_le _ _)) hic, ← hbytes i (hlen ▸ hic), hoff]
  rfl

/-! ### What is handed to `TxWrite` (R56, R80) -/

/-- A byte sequence an entry of the record handed to `TxWrite`, whatever the answer. -/
def Wrote (X : List Byte) (ops : List PortOp) : Prop := .txOk X ∈ ops ∨ ∃ k, .txFail X k ∈ ops

theorem wrote_append {X : List Byte} {ops ops' : List PortOp} (h : Wrote X (ops ++ ops')) :
    Wrote X ops ∨ Wrote X ops' := by
  simp only [Wrote, List.mem_append] at h ⊢
  grind

/-- A row writes the frame SEND_BLOCK builds, the frame `FB` holds in RETRY, or the byte `EOT`. -/
theorem RowStep.wrote {s t : State} {r : DispatchRow} (h : RowStep s r t) :
    ∃ ops, t.trace = s.trace ++ ops ∧ ∀ X, Wrote X ops →
      (∃ c, c.length ≤ BLOCK ∧ X = encodeFrame s.seq c) ∨ (s.st = .retry ∧ frameInBuffer s = some X) ∨ X = [EOT] := by
  cases h
  case awaitStart | done | failed => exact ⟨[], by simp, fun X hX => by simp [Wrote] at hX⟩
  case sendOk c st read tx | sendFail c k j st read tx =>
    have hc : c.length ≤ BLOCK := (memRead_length (imageRead_eq_some read).2).trans_le (chunkLen_le _ _)
    exact ⟨_, rfl, fun X hX => .inl ⟨c, hc, by simpa [Wrote] using hX⟩⟩
  case resendOk F st err fb tx | resendFail F k j st err fb tx =>
    refine ⟨_, rfl, fun X hX => .inr (.inl ⟨st, ?_⟩)⟩
    obtain rfl : X = F := by simpa [Wrote] using hX
    exact fb
  case eotOk | eotFail => exact ⟨_, rfl, fun X hX => .inr (.inr (by simpa [Wrote] using hX))⟩
  all_goals exact ⟨_, rfl, fun X hX => by simp [Wrote] at hX⟩

/-- The frame of the block in flight is the encoding of a chunk no longer than a block. -/
theorem verifyFrame_of_inFlight {s : State} {F : List Byte} (h : BlockInFlight s) (hF : frameInBuffer s = some F) :
    verifyFrame F = true := by
  obtain ⟨c, hc, hF'⟩ := h.frame
  have hlen : c.length = s.off - BLOCK * s.succ := memRead_length hc
  have hoff := h.off
  have hblock : c.length ≤ BLOCK := by simp only [BLOCK] at *; omega
  cases hF.symm.trans hF'
  exact verifyFrame_encodeFrame s.seq hblock

/-- Settles O56: a command writes nothing; what a row writes is a frame that verifies or `EOT`. -/
theorem everyStepKeepsTxFramesAndEots : Obligations.EveryStepKeepsTxFramesAndEots := by
  intro s t hs hX h X
  have hbefore : ∀ X, Wrote X s.trace → X = [EOT] ∨ verifyFrame X = true := hX
  rcases step_next_cases h with ⟨-, rfl⟩ | ⟨-, -, rfl⟩ | ⟨-, -, rfl⟩ | ⟨-, hrow⟩
  · intro hW
    exact hbefore X (by simpa [Wrote, resetEffect] using hW)
  · intro hW
    exact hbefore X (by simpa [Wrote, startEffect] using hW)
  · exact hbefore X
  · obtain ⟨ops, htrace, hops⟩ := hrow.wrote
    intro hW
    rcases wrote_append (htrace ▸ hW) with hW | hW
    · exact hbefore X hW
    · rcases hops X hW with ⟨c, hc, rfl⟩ | ⟨hst, hF⟩ | hEot
      · exact .inr (verifyFrame_encodeFrame _ hc)
      · exact .inr (verifyFrame_of_inFlight (hs.inFlight (.inr hst)) hF)
      · exact .inl hEot

/-! ### The progress events (R166, R167) -/

/-- A row reports no progress, or the new counts, of which it has raised one. -/
theorem RowStep.progress_cases {s t : State} {r : DispatchRow} (h : RowStep s r t) :
    progressStream t = progressStream s ∨
    (progressStream t = progressStream s ++ [(t.total, t.succ, t.errtot)] ∧ t.st ≠ .awaitAck ∧ t.total = s.total ∧
      ((t.succ = s.succ + 1 ∧ t.errtot = s.errtot) ∨ (t.succ = s.succ ∧ t.errtot = s.errtot + 1))) := by
  cases h
  case ackMore | ackLast =>
    exact .inr ⟨by simp [progressStream, List.filterMap_cons, PortOp.progressTriple], by simp, rfl,
      .inl ⟨rfl, rfl⟩⟩
  case nak | timeout =>
    exact .inr ⟨by simp [progressStream, List.filterMap_cons, PortOp.progressTriple], by simp, rfl,
      .inr ⟨rfl, rfl⟩⟩
  all_goals exact .inl (by simp [progressStream, List.filterMap_cons, PortOp.progressTriple])

/-- Settles O50: the count that is raised is the row's; `t = s + e` is item 2 of R36 in the state after the step. -/
theorem progressEventsRaiseOneCount : Obligations.ProgressEventsRaiseOneCount := by
  intro s t hs h
  have ht : SessionInv t := everyStepKeepsTheSessionInvariant s t hs h
  rcases step_next_cases h with ⟨-, rfl⟩ | ⟨-, -, rfl⟩ | ⟨-, -, rfl⟩ | ⟨-, hrow⟩
  · exact .inl (streams_of_reset (popCommand s)).2.1
  · exact .inl (by simp [progressStream, startEffect, PortOp.progressTriple])
  · exact .inl rfl
  · rcases hrow.progress_cases with hsame | ⟨hprogress, hst, htotal, hcounts⟩
    · exact .inl hsame
    · exact .inr ⟨hprogress, by simpa [hst] using ht.totalCounts, htotal, hcounts⟩

end Sys2Proof.Machine
end

section
/-! The counts of a session (R27, R166, R209): what a row adds to the record, the limits, and O51, O57, O58. -/
namespace Sys2Proof.Machine

open Sys2Proof.Safety

/-! ### What a row adds to the session's record -/

/-- An update whose entries contain no RESET adds to each count the entries of its kind. -/
theorem counts_append {s t : State} {ops : List PortOp} (h : t.trace = s.trace ++ ops) (hreset : PortOp.reset ∉ ops) :
    framesSent t = framesSent s + ops.countP PortOp.isFrameSent ∧
      eotsSent t = eotsSent s + ops.countP PortOp.isEotSent ∧
      progressCount t = progressCount s + ops.countP PortOp.isProgress := by
  simp only [framesSent, eotsSent, progressCount, h, sessionOps_append _ _ hreset, List.countP_append, and_self]

theorem ne_eot_of_frame {F : List Byte} (h : F.length = FRAME_LEN) : F ≠ [EOT] := by
  rintro rfl
  cases h

/-- The entries a row adds: a frame for each step of `TOTAL`, a progress event for each step of `SUCC + ERRTOT`, an
`EOT` where the `EOT` window opens. -/
theorem RowStep.record {s t : State} {r : DispatchRow} (h : RowStep s r t) :
    ∃ ops, t.trace = s.trace ++ ops ∧ PortOp.reset ∉ ops ∧
      t.total = s.total + ops.countP PortOp.isFrameSent ∧
      t.succ + t.errtot = s.succ + s.errtot + ops.countP PortOp.isProgress ∧
      ops.countP PortOp.isEotSent = if s.st = .sendEot ∧ t.st = .awaitEotAck then 1 else 0 := by
  cases h
  case awaitStart | done | failed => exact ⟨[], by simp [*]⟩
  case' sendOk st read tx =>
    have hlen := encodeFrame_length_of_imageRead s.seq read
    have hne := ne_eot_of_frame hlen
  case' resendOk F st err fb tx =>
    have hlen := frameInBuffer_length fb
    have hne := ne_eot_of_frame hlen
  all_goals
    refine ⟨_, rfl, ?_⟩
    simp [PortOp.isFrameSent, PortOp.isEotSent, PortOp.isProgress, PortOp.progressTriple, FRAME_LEN, *]
  all_goals omega

/-! ### The limits (R209) -/

/-- The part of the counts that speaks of the registers alone: no block acknowledged so far failed more often than
`MAX_RETRY`, the present one `ERR` times. -/
structure LimitsInv (s : State) : Prop where
  errtot : s.errtot ≤ s.cfg.maxRetry * s.succ +
    (if s.st = .awaitAck ∨ s.st = .retry ∨ s.st = .failed then s.err else 0)
  err : s.err ≤ s.cfg.maxRetry + 1
  eerr : s.eerr + (if s.st = .failed then 0 else 1) ≤ s.cfg.eotMaxRetry + 1
  succ : s.succ ≤ nBlocks s.len ∧ (s.st = .failed → s.succ < nBlocks s.len ∨ s.errtot ≤ s.cfg.maxRetry * s.succ)

/-- While a block is sent or in flight the image has more blocks than are acknowledged. -/
theorem succ_lt_nBlocks {s : State} (hs : SessionInv s)
    (hst : s.st = .sendBlock ∨ s.st = .awaitAck ∨ s.st = .retry) : s.succ < nBlocks s.len := by
  rcases hst with hst | hst
  · obtain ⟨hoff, hlen⟩ := hs.blockAhead hst
    exact lt_nBlocks_iff.2 (hoff ▸ hlen)
  · exact lt_nBlocks_iff.2 (hs.inFlight hst).started

theorem RowStep.keeps_limits {s t : State} {r : DispatchRow} (h : RowStep s r t) (hs : SessionInv s)
    (hl : LimitsInv s) : LimitsInv t := by
  obtain ⟨herrtot, herr, heerr, hsucc, hfailed⟩ := hl
  cases h
  case awaitStart | done | failed | noise | eotNoise => exact ⟨herrtot, herr, heerr, hsucc, hfailed⟩
  case' sendOk st read tx | sendFail st read tx => have hmore := succ_lt_nBlocks hs (.inl st)
  case' retryFail st err | resendOk st err fb tx | resendFail st err fb tx =>
    have hmore := succ_lt_nBlocks hs (.inr (.inr st))
  case' ackMore st rx off | ackLast st rx off =>
    have hmore := succ_lt_nBlocks hs (.inr (.inl st))
    have hwindow := hs.errInWindow st
    have hblock : s.cfg.maxRetry * (s.succ + 1) = s.cfg.maxRetry * s.succ + s.cfg.maxRetry := Nat.mul_succ _ _
  case' nak st rx | timeout st rx => have hwindow := hs.errInWindow st
  all_goals
    clear hs
    constructor <;> simp_all
  all_goals omega

/-! ### The count invariant -/

theorem limitsInv_of_countsInv {s : State} (h : CountsInv s) : LimitsInv s :=
  ⟨h.errtotBounded, h.errBounded, h.eerrBounded, h.succBounded⟩

theorem countsInv_popCommand {s : State} (h : CountsInv s) : CountsInv (popCommand s) :=
  { h with session := sessionInv_popCommand h.session }

/-- An `EOT` is failed, or in flight, or acknowledged (R209). -/
theorem RowStep.eots_eq {s t : State} {r : DispatchRow} (h : RowStep s r t) :
    t.eerr + (if t.st = .awaitEotAck ∨ t.st = .done then 1 else 0) =
      s.eerr + (if s.st = .awaitEotAck ∨ s.st = .done then 1 else 0) +
        (if s.st = .sendEot ∧ t.st = .awaitEotAck then 1 else 0) := by
  cases h <;> simp [*]

theorem RowStep.keeps_counts {s t : State} {r : DispatchRow} (h : RowStep s r t) (hc : CountsInv s) :
    CountsInv t := by
  obtain ⟨ops, htrace, hreset, hframes, hprogress, heots⟩ := h.record
  obtain ⟨hframes', heots', hprogress'⟩ := counts_append htrace hreset
  have hl : LimitsInv t := h.keeps_limits hc.session (limitsInv_of_countsInv hc)
  exact ⟨h.keeps_sessionInv hc.session, by rw [hframes', hc.framesAreTotal, hframes],
    by rw [hprogress', hc.progressAreResolved, hprogress], by rw [heots', hc.eotsAreAttempts, heots, h.eots_eq],
    hl.errtot, hl.err, hl.eerr, hl.succ⟩

/-- A state whose counts are all 0, before or after START, has the count invariant. -/
theorem countsInv_of_fresh {s : State} (hs : SessionInv s)
    (hst : s.st = .awaitStart ∨ s.st = .sendBlock ∨ s.st = .sendEot)
    (hregs : s.err = 0 ∧ s.eerr = 0 ∧ s.succ = 0 ∧ s.errtot = 0 ∧ s.total = 0)
    (hrecord : framesSent s = 0 ∧ progressCount s = 0 ∧ eotsSent s = 0) : CountsInv s := by
  obtain ⟨herr, heerr, hsucc, herrtot, htotal⟩ := hregs
  obtain ⟨hframes, hprogress, heots⟩ := hrecord
  rcases hst with hst | hst | hst <;> constructor <;> simp_all

theorem countsInv_resetEffect {s : State} (himg : Memory.wf s.img) : CountsInv (resetEffect s) := by
  have hops : sessionOps (resetEffect s).trace = [] := sessionOps_append_one s.trace .reset
  exact countsInv_of_fresh (sessionInv_resetEffect himg) (.inl rfl) ⟨rfl, rfl, rfl, rfl, rfl⟩
    (by simp [framesSent, progressCount, eotsSent, hops])

theorem countsInv_startEffect {s : State} (L : Nat) (h : CountsInv s) (hst : s.st = .awaitStart) :
    CountsInv (startEffect L s) := by
  obtain ⟨herr, heerr, hsucc, herrtot, -⟩ := h.session.idleIsFresh hst
  have htotal : s.total = 0 := by rw [h.session.totalCounts, hsucc, herrtot, hst]; rfl
  have htrace : (startEffect L s).trace = s.trace ++ [.start L] := rfl
  obtain ⟨hframes, heots, hprogress⟩ := counts_append htrace (by simp)
  have hst' : (startEffect L s).st = .sendBlock ∨ (startEffect L s).st = .sendEot := by
    by_cases hL : L = 0 <;> simp [startEffect, hL]
  refine countsInv_of_fresh (sessionInv_startEffect L h.session hst) (.inr hst') ⟨herr, heerr, hsucc, herrtot, htotal⟩
    ⟨?_, ?_, ?_⟩
  · rw [hframes, h.framesAreTotal, htotal]; rfl
  · rw [hprogress, h.progressAreResolved, hsucc, herrtot]; rfl
  · rw [heots, h.eotsAreAttempts, heerr, hst]; rfl

/-- Settles O57: RESET empties the session's record with the counts, START adds no entry that counts, and a row raises a
count by the entries it adds, within the limits. -/
theorem everyStepKeepsTheCounts : Obligations.EveryStepKeepsTheCounts := by
  intro s t hc h
  have hpop : CountsInv (popCommand s) := countsInv_popCommand hc
  rcases step_next_cases h with ⟨-, rfl⟩ | ⟨-, hst, rfl⟩ | ⟨-, -, rfl⟩ | ⟨-, hrow⟩
  · exact countsInv_resetEffect hc.session.memoriesCanonical.1
  · exact countsInv_startEffect _ hpop hst
  · exact hpop
  · exact hrow.keeps_counts hpop

/-- Settles O51: the reset state is fresh and its record is empty. -/
theorem invariantsHoldAtReset : Obligations.InvariantsHoldAtReset :=
  ⟨sessionInv_reset, countsInv_of_fresh sessionInv_reset (.inl rfl) ⟨rfl, rfl, rfl, rfl, rfl⟩ ⟨rfl, rfl, rfl⟩,
    fun X h => by simp [State.reset] at h⟩

/-! ### The bound on transmissions (R209) -/

/-- `MAX_RETRY + 1` attempts for each of at most `NBLOCKS(L)` blocks. -/
theorem attempts_le {m n blocks : Nat} (h : n ≤ blocks) : m * n + n ≤ (m + 1) * blocks := by
  rw [← Nat.succ_mul]
  exact Nat.mul_le_mul_left _ h

/-- The frames of a session: `MAX_RETRY + 1` for each acknowledged block, and no more for the present one. -/
theorem total_le {s : State} (hs : SessionInv s) (hl : LimitsInv s) :
    s.total ≤ (s.cfg.maxRetry + 1) * nBlocks s.len := by
  obtain ⟨herrtot, herr, -, hsucc, hfailed⟩ := hl
  have htotal := hs.totalCounts
  have hacked := attempts_le (m := s.cfg.maxRetry) hsucc
  have hpresent : s.succ < nBlocks s.len →
      s.cfg.maxRetry * s.succ + s.cfg.maxRetry + (s.succ + 1) ≤ (s.cfg.maxRetry + 1) * nBlocks s.len := fun hlt => by
    rw [← Nat.mul_succ]
    exact attempts_le hlt
  cases hst : s.st <;> simp only [hst, reduceCtorEq, or_true, true_or, or_self, if_true, if_false] at herrtot htotal
  case awaitAck =>
    have hblock := hpresent (succ_lt_nBlocks hs (.inr (.inl hst)))
    have hwindow := hs.errInWindow hst
    omega
  case retry =>
    have hblock := hpresent (succ_lt_nBlocks hs (.inr (.inr hst)))
    omega
  case failed =>
    rcases hfailed hst with hlt | hle
    · have hblock := hpresent hlt
      omega
    · omega
  all_goals omega

/-- Settles O58: the frames are `TOTAL`, the `EOT` bytes the failed ones and at most one more. -/
theorem transmissionsAreBounded : Obligations.TransmissionsAreBounded := by
  intro s hc
  refine ⟨hc.framesAreTotal ▸ total_le hc.session (limitsInv_of_countsInv hc), ?_⟩
  have heerr := hc.eerrBounded
  rw [hc.eotsAreAttempts]
  cases hst : s.st <;> simp [hst] at heerr ⊢ <;> omega

end Sys2Proof.Machine
end

section
/-! Sessions end (R209): every step of a busy block without noise lowers the bound on the steps left, and O59, O60. -/
namespace Sys2Proof.Machine

open Sys2Proof.Safety

/-! ### The bound at each `ST` -/

/-- The steps of the blocks still to come and of the `EOT` phase. -/
def stepsOf (cfg : Cfg) (blocks : Nat) : Nat := blocks * (2 * (cfg.maxRetry + 1) + 2) + 2 * (cfg.eotMaxRetry + 1)

theorem stepsOf_succ (cfg : Cfg) (blocks : Nat) :
    stepsOf cfg (blocks + 1) = stepsOf cfg blocks + (2 * (cfg.maxRetry + 1) + 2) := by
  simp only [stepsOf, Nat.succ_mul]; omega

theorem eot_le_stepsOf (cfg : Cfg) (blocks : Nat) : 2 * (cfg.eotMaxRetry + 1) ≤ stepsOf cfg blocks :=
  Nat.le_add_left _ _

section StepsLeft

variable {s : State}

theorem stepsLeft_sendBlock (h : s.st = .sendBlock) : stepsLeft s = stepsOf s.cfg (nBlocks s.len - s.succ) := by
  simp only [stepsLeft, h, stepsOf]

theorem stepsLeft_awaitAck (h : s.st = .awaitAck) :
    stepsLeft s = stepsOf s.cfg (nBlocks s.len - s.succ - 1) + (2 * (s.cfg.maxRetry + 1 - s.err) + 1) := by
  simp only [stepsLeft, h, stepsOf]; omega

theorem stepsLeft_retry (h : s.st = .retry) :
    stepsLeft s = stepsOf s.cfg (nBlocks s.len - s.succ - 1) + (2 * (s.cfg.maxRetry + 1 - s.err) + 2) := by
  simp only [stepsLeft, h, stepsOf]; omega

theorem stepsLeft_sendEot (h : s.st = .sendEot) : stepsLeft s = 2 * (s.cfg.eotMaxRetry + 1 - s.eerr) := by
  simp only [stepsLeft, h]

theorem stepsLeft_awaitEotAck (h : s.st = .awaitEotAck) :
    stepsLeft s = 2 * (s.cfg.eotMaxRetry + 1 - s.eerr) - 1 := by
  simp only [stepsLeft, h]

theorem stepsLeft_terminal (h : s.st = .done ∨ s.st = .failed) : stepsLeft s = 0 := by
  rcases h with h | h <;> simp only [stepsLeft, h]

end StepsLeft

/-- A session that still runs has a step left. -/
theorem stepsLeft_pos {s : State} (hs : SessionInv s) (hbusy : busy s = true) : 0 < stepsLeft s := by
  cases hst : s.st
  case sendBlock =>
    have hle := eot_le_stepsOf s.cfg (nBlocks s.len - s.succ)
    rw [stepsLeft_sendBlock hst]; omega
  case awaitAck => rw [stepsLeft_awaitAck hst]; omega
  case retry => rw [stepsLeft_retry hst]; omega
  case sendEot =>
    have heerr := hs.eotErrBounded (.inl hst)
    rw [stepsLeft_sendEot hst]; omega
  case awaitEotAck =>
    have heerr := hs.eotErrBounded (.inr hst)
    rw [stepsLeft_awaitEotAck hst]; omega
  all_goals simp [busy, hst] at hbusy

/-! ### One step nearer -/

/-- A failure ends the session at once. -/
theorem stepsLeft_lt_of_terminal {s t : State} (hs : SessionInv s) (hbusy : busy s = true)
    (hst : t.st = .done ∨ t.st = .failed) : stepsLeft t < stepsLeft s :=
  (stepsLeft_terminal hst).trans_lt (stepsLeft_pos hs hbusy)

theorem RowStep.stepsLeft_lt {s t : State} {r : DispatchRow} (h : RowStep s r t) (hs : SessionInv s)
    (hbusy : busy s = true) (hdecides : windowOpen s = true → decides (rxAnswer s) = true) :
    stepsLeft t < stepsLeft s := by
  cases h
  case awaitStart st | done st | failed st => simp [busy, st] at hbusy
  case noise b st rx noise | eotNoise b st rx noise => simp [windowOpen, st, rx, decides, noise] at hdecides
  case sendFail | retryFail | resendFail | eotFail | eotNakLast | eotTimeoutLast =>
    exact stepsLeft_lt_of_terminal hs hbusy (.inr rfl)
  case finalAck => exact stepsLeft_lt_of_terminal hs hbusy (.inl rfl)
  case sendOk c st read tx =>
    obtain ⟨n, hn⟩ := Nat.exists_eq_add_of_lt (succ_lt_nBlocks hs (.inl st))
    have hblocks : nBlocks s.len - s.succ = n + 1 := by omega
    rw [stepsLeft_awaitAck rfl, stepsLeft_sendBlock st]
    simp only [hblocks, stepsOf_succ, Nat.add_sub_cancel]
    omega
  case resendOk F st err fb tx =>
    rw [stepsLeft_awaitAck rfl, stepsLeft_retry st]
    exact Nat.lt_succ_self _
  case ackMore st rx off =>
    rw [stepsLeft_sendBlock rfl, stepsLeft_awaitAck st]
    simp only [Nat.sub_sub]
    omega
  case ackLast st rx off =>
    have hle := eot_le_stepsOf s.cfg (nBlocks s.len - s.succ - 1)
    rw [stepsLeft_sendEot rfl, stepsLeft_awaitAck st]
    simp only
    omega
  case nak st rx | timeout st rx =>
    have hwindow := hs.errInWindow st
    rw [stepsLeft_retry rfl, stepsLeft_awaitAck st]
    simp only
    omega
  case eotOk st tx =>
    have heerr := hs.eotErrBounded (.inl st)
    rw [stepsLeft_awaitEotAck rfl, stepsLeft_sendEot st]
    simp only
    omega
  case eotNak st rx eerr | eotTimeout st rx eerr =>
    rw [stepsLeft_sendEot rfl, stepsLeft_awaitEotAck st]
    simp only
    omega

/-- Settles O59: with no command the step is a row, and no noise means that it is none of the noise rows. -/
theorem everyDecidingStepComesCloserToTheEnd : Obligations.EveryDecidingStepComesCloserToTheEnd :=
  fun _ _ hs hbusy hword hdecides h =>
    (rowStep_of_nocmd hword h).stepsLeft_lt (sessionInv_popCommand hs) hbusy hdecides

/-- A noise byte leaves the bound as it is (R154, R160). -/
theorem RowStep.stepsLeft_of_noise {s t : State} {r : DispatchRow} (h : RowStep s r t) (hw : windowOpen s = true)
    (hnoise : decides (rxAnswer s) = false) : stepsLeft t = stepsLeft s := by
  cases h
  case noise | eotNoise => rfl
  case ackMore rx _ | ackLast rx _ => simp [rx, decides, isNoise] at hnoise
  case nak rx | timeout rx | finalAck rx => simp [rx, decides, isNoise] at hnoise
  case eotNak rx _ | eotNakLast rx _ | eotTimeout rx _ | eotTimeoutLast rx _ =>
    simp [rx, decides, isNoise] at hnoise
  all_goals simp [windowOpen, *] at hw

/-! ### A run to the end -/

/-- A session under way, with no command listed and enough deciding answers: the premises of R209. -/
structure UnderWay (s : State) : Prop where
  inv : SessionInv s
  covers : imageCovers s
  started : s.st ≠ .awaitStart
  noCommand : s.cmds = []
  enough : stepsLeft s ≤ s.rx.countP decides

/-- The steps left and the noise bytes listed. -/
def runBound (s : State) : Nat := stepsLeft s + s.rx.countP (fun a => !decides a)

theorem RowStep.host_eq {s t : State} {r : DispatchRow} (h : RowStep s r t) :
    t.img = s.img ∧ t.len = s.len ∧ t.cmds = s.cmds := by
  cases h <;> exact ⟨rfl, rfl, rfl⟩

/-- No row goes back to `AWAIT_START`. -/
theorem RowStep.started {s t : State} {r : DispatchRow} (h : RowStep s r t) (hst : s.st ≠ .awaitStart) :
    t.st ≠ .awaitStart := by
  cases h
  case awaitStart | done | failed | noise | eotNoise => exact hst
  all_goals simp

/-- While a window is open and steps are left, the next answer is a listed one. -/
theorem UnderWay.rx_cons {s : State} (h : UnderWay s) (hbusy : busy s = true) :
    ∃ a rest, s.rx = a :: rest ∧ rxAnswer s = a := by
  have hpos := stepsLeft_pos h.inv hbusy
  have henough := h.enough
  cases hrx : s.rx with
  | nil => rw [hrx, List.countP_nil] at henough; omega
  | cons a rest => exact ⟨a, rest, rfl, by rw [rxAnswer, hrx, List.headD_cons]⟩

/-- A row of a busy session leaves enough answers for the steps left, and brings the end nearer. -/
theorem UnderWay.answers {s t : State} {r : DispatchRow} (h : UnderWay s) (hbusy : busy s = true)
    (hrow : RowStep s r t) : stepsLeft t ≤ t.rx.countP decides ∧ runBound t < runBound s := by
  have henough := h.enough
  have hrx := hrow.rx_eq
  unfold runBound
  cases hw : windowOpen s with
  | false =>
    have hlt := hrow.stepsLeft_lt h.inv hbusy (by simp [hw])
    rw [hrx, hw, if_neg Bool.false_ne_true]
    omega
  | true =>
    obtain ⟨a, rest, hcons, ha⟩ := h.rx_cons hbusy
    rw [hw, if_pos rfl, hcons, List.tail_cons] at hrx
    rw [hcons, List.countP_cons] at henough
    rw [hrx, hcons, List.countP_cons]
    cases hdec : decides a with
    | true =>
      have hlt := hrow.stepsLeft_lt h.inv hbusy fun _ => ha ▸ hdec
      simp only [hdec, if_true, Bool.not_true, Bool.false_eq_true, if_false] at henough ⊢
      omega
    | false =>
      have heq := hrow.stepsLeft_of_noise hw (ha ▸ hdec)
      simp only [hdec, Bool.false_eq_true, if_false, Bool.not_false, if_true] at henough ⊢
      omega

/-- A busy session under way takes a step, stays under way and comes nearer to its end. -/
theorem UnderWay.takes_step {s : State} (h : UnderWay s) (hbusy : busy s = true) :
    ∃ t, step s = .next t ∧ UnderWay t ∧ runBound t < runBound s := by
  obtain ⟨t, ht⟩ := (noRunStopsOnAnImageTheHostOwes s h.inv).2 h.covers
  have hpop : popCommand s = s := by rw [popCommand, h.noCommand, List.tail_nil, ← h.noCommand]
  have hrow : RowStep s (selectedRow s) t := by
    have hword : (command s).word = 0#2 := by rw [command, h.noCommand]; rfl
    simpa only [hpop] using rowStep_of_nocmd hword ht
  obtain ⟨himg, hlen, hcmds⟩ := hrow.host_eq
  obtain ⟨henough, hlt⟩ := h.answers hbusy hrow
  have hcovers : imageCovers t := fun a ha => himg ▸ h.covers a (hlen ▸ ha)
  exact ⟨t, ht, ⟨everyStepKeepsTheSessionInvariant s t h.inv ht, hcovers, hrow.started h.started,
    hcmds.trans h.noCommand, henough⟩, hlt⟩

/-- A session that has begun runs or is over (R31). -/
theorem busy_of_not_done {s : State} (hst : s.st ≠ .awaitStart) (hdone : doneOut s = false) : busy s = true := by
  cases h : s.st <;> simp [h, busy, doneOut] at hst hdone ⊢

theorem run_succ {s t : State} (h : step s = .next t) (k : Nat) :
    Host.Core.run core (k + 1) s = Host.Core.run core k t := by
  have hstep : core.step s = .next t := h
  simp only [Host.Core.run, hstep]

/-- By induction on the bound: a session under way ends within it. -/
theorem run_ends (n : Nat) : ∀ s, UnderWay s → runBound s ≤ n →
    ∃ k t, k ≤ n ∧ Host.Core.run core k s = .next t ∧ doneOut t = true := by
  induction n with
  | zero =>
    intro s h hn
    cases hdone : doneOut s with
    | true => exact ⟨0, s, Nat.le_refl 0, rfl, hdone⟩
    | false =>
      obtain ⟨t, -, -, hlt⟩ := h.takes_step (busy_of_not_done h.started hdone)
      omega
  | succ n ih =>
    intro s h hn
    cases hdone : doneOut s with
    | true => exact ⟨0, s, Nat.zero_le _, rfl, hdone⟩
    | false =>
      obtain ⟨t, ht, h', hlt⟩ := h.takes_step (busy_of_not_done h.started hdone)
      obtain ⟨k, u, hk, hrun, hend⟩ := ih t h' (by omega)
      exact ⟨k + 1, u, Nat.succ_le_succ hk, (run_succ ht k).trans hrun, hend⟩

/-- Settles O60: the premises make the session one under way, which ends within its bound. -/
theorem everySessionEnds : Obligations.EverySessionEnds :=
  fun s hs himg hst hcmds henough => run_ends (runBound s) s ⟨hs, himg, hst, hcmds, henough⟩ (Nat.le_refl _)

end Sys2Proof.Machine
end

section
/-! Placed words (log 5, log 11): format by format, the instruction a table word decodes to is the one the placed state
selects; O8. -/
namespace Sys2Proof.Machine

/-! ### Where the step comes from the dispatch word -/

/-- With no command listed a step is the instruction of the row that is taken. -/
theorem step_of_rowTaken {r : DispatchRow} {s : State} (hcmds : s.cmds = []) (h : rowTaken r s) :
    step s = exec r.toInstr s := by
  have hword : (command s).word = 0#2 := by rw [command, hcmds]; rfl
  have hpop : popCommand s = s := by rw [popCommand, hcmds, List.tail_nil, ← hcmds]
  rw [step_of_nocmd hword, exec_nocmd hword, hpop, selectedRow_eq_of_rowTaken h]

@[simp] theorem withTxAnswer_st (s : State) : (withTxAnswer s).st = s.st := rfl
@[simp] theorem withTxAnswer_cmds (s : State) : (withTxAnswer s).cmds = s.cmds := rfl

@[simp] theorem withBlock_st (s : State) : (withBlock s).st = s.st := by unfold withBlock; split <;> rfl
@[simp] theorem withBlock_cmds (s : State) : (withBlock s).cmds = s.cmds := by unfold withBlock; split <;> rfl

@[simp] theorem withFrame_st (s : State) : (withFrame s).st = s.st := by unfold withFrame; split <;> rfl
@[simp] theorem withFrame_cmds (s : State) : (withFrame s).cmds = s.cmds := by unfold withFrame; split <;> rfl

@[simp] theorem withRetriesLeft_st (s : State) : (withRetriesLeft s).st = s.st := rfl
@[simp] theorem withRetriesLeft_cmds (s : State) : (withRetriesLeft s).cmds = s.cmds := rfl

/-- The limit is not passed in the placed state (log 11). -/
theorem withRetriesLeft_err_le (s : State) : (withRetriesLeft s).err ≤ (withRetriesLeft s).cfg.maxRetry := by
  have hle : (if retriesExhausted s then 0 else s.err) ≤ s.cfg.maxRetry := by
    split
    · exact Nat.zero_le _
    next hlimit => simpa [retriesExhausted] using hlimit
  exact hle

@[simp] theorem withLen_st (s : State) : (withLen s).st = s.st := rfl
@[simp] theorem placeSt_st (st : St) (s : State) : (placeSt st s).st = st := rfl
@[simp] theorem placeSt_cmds (st : St) (s : State) : (placeSt st s).cmds = [] := rfl

/-! ### Command words (R92) -/

theorem command_placeCommand (w : Nat) (s : State) : (command (placeCommand w s)).word = BitVec.ofNat 2 w := rfl

/-- A command word, first at the command port, is the command that is sampled. -/
theorem step_placeCommand {w : Nat} (h : w < 4) (s : State) {i : Instr}
    (hi : decode tableCond .cmd [BitVec.ofNat 8 w] = .ok (i, [])) :
    step (placeCommand w s) = exec i (placeCommand w s) := by
  match w, h with
  | 0, _ => cases hi; exact step_of_nocmd rfl
  | 1, _ => cases hi; exact step_of_start rfl rfl
  | 2, _ => cases hi; exact step_of_reset (by rw [command_placeCommand]; rfl)
  | 3, _ => cases hi; exact step_of_reset (by rw [command_placeCommand]; rfl)

/-! ### Response bytes (R85) -/

theorem responseArms_decodeResponse (b : Byte) : ∃ data eot, responseArms (decodeResponse b) b data eot := by
  by_cases hack : b = ACK
  · subst hack; exact ⟨_, _, .inl rfl⟩
  · by_cases hnak : b = NAK
    · subst hnak; exact ⟨_, _, .inr (.inl rfl)⟩
    · exact ⟨_, _, decodeResponse_of_ne hack hnak ▸ responseArms_noise hack hnak⟩

/-- A response byte is the answer of the window it is placed in. -/
theorem step_placeResponse (b : Byte) (s : State) :
    step (placeResponse b s) = exec (decodeResponse b) (placeResponse b s) := by
  obtain ⟨data, eot, hi⟩ := responseArms_decodeResponse b
  have hcmds : (placeResponse b s).cmds = [] := rfl
  have hrx : rxAnswer (placeResponse b s) = .byte b := rfl
  obtain ⟨hdata, heot⟩ := rowTaken_responseArms hi (placeResponse b s)
  by_cases hst : s.st = .awaitEotAck
  · have hst' : (placeResponse b s).st = .awaitEotAck := if_pos hst
    rw [step_of_rowTaken hcmds (heot.2 ⟨hst', hrx⟩), exec_response_of_awaitEotAck hi hst']
  · have hst' : (placeResponse b s).st = .awaitAck := if_neg hst
    rw [step_of_rowTaken hcmds (hdata.2 ⟨hst', hrx⟩), exec_response_of_awaitAck hi hst']

/-! ### Dispatch words (R90, R91) -/

theorem placeDispatch_cmds (d : BitVec 12) (s : State) : (placeDispatch d s).cmds = [] := by
  unfold placeDispatch
  cases dispatchSt d <;> simp [placeRx, withLen]

/-- The placed state takes the row its word decodes to. -/
theorem rowTaken_placeDispatch (d : BitVec 12) (s : State) :
    rowTaken (decodeDispatch tableCond d) (placeDispatch d s) := by
  unfold decodeDispatch placeDispatch
  cases dispatchSt d
  case retry => exact ⟨by simp, withRetriesLeft_err_le _⟩
  case awaitAck | awaitEotAck =>
    cases hv : dispatchRxv d with
    | false => exact ⟨rfl, rfl⟩
    | true =>
      by_cases hack : dispatchRxb d = ACK
      · simp [hack, rowTaken, placeRx, rxAnswer]
      · by_cases hnak : dispatchRxb d = NAK
        · simp [hnak, show NAK ≠ ACK by decide, rowTaken, placeRx, rxAnswer]
        · simp [hack, hnak, rowTaken, placeRx, rxAnswer, isNoise_iff]
  all_goals simp [rowTaken]

/-- The two bytes of a table word are its low 12 bits, where the upper four are 0. -/
theorem dispatchWord_of_tableBytes (w : Nat) :
    (BitVec.ofNat 8 (w / 256)).extractLsb' 0 4 ++ BitVec.ofNat 8 w = BitVec.ofNat 12 w := by
  have hhi : (BitVec.ofNat 8 (w / 256)).extractLsb' 0 4 = (BitVec.ofNat 12 w).extractLsb' 8 4 := by
    apply BitVec.eq_of_toNat_eq
    simp [BitVec.extractLsb'_toNat, Nat.shiftRight_eq_div_pow]
    omega
  have hlo : BitVec.ofNat 8 w = (BitVec.ofNat 12 w).extractLsb' 0 8 := by
    apply BitVec.eq_of_toNat_eq
    simp [BitVec.extractLsb'_toNat]
  rw [hhi, hlo]
  exact BitVec.extractLsb'_append_extractLsb'

theorem step_placeDispatch {w : Nat} (s : State) {i : Instr}
    (hi : decode tableCond .dispatch [BitVec.ofNat 8 w, BitVec.ofNat 8 (w / 256)] = .ok (i, [])) :
    step (placeDispatch (BitVec.ofNat 12 w) s) = exec i (placeDispatch (BitVec.ofNat 12 w) s) := by
  have hrow : (decodeDispatch tableCond (BitVec.ofNat 12 w)).toInstr = i := by
    simp only [decode, dispatchWord_of_tableBytes] at hi
    split at hi
    · cases hi; rfl
    · cases hi
  rw [step_of_rowTaken (placeDispatch_cmds _ s) (rowTaken_placeDispatch _ s), hrow]

/-! ### Items of TX (R81, R82) -/

theorem step_placeEot (s : State) :
    step (withTxAnswer (placeSt .sendEot s)) = exec .eot (withTxAnswer (placeSt .sendEot s)) :=
  step_of_rowTaken (r := .sendEot) rfl rfl

/-- Of 132 bytes the decoder of TX reads one item whole only if they are a data frame. -/
theorem decodeTxItem_frame {F : List Byte} {i : Instr} (hlen : F.length = FRAME_LEN)
    (hi : decodeTxItem F = .ok (i, [])) :
    byteAt F 0 = SOH ∧ i = .data (byteAt F 1) (byteAt F 2) (payloadOf F) (byteAt F 131) := by
  cases F with
  | nil => cases hlen
  | cons b rest =>
    have heot : b ≠ EOT := by
      rintro rfl
      rw [decodeTxItem, if_pos rfl] at hi
      cases hi
      cases hlen
    have hsoh : b = SOH := by
      by_contra hne
      rw [decodeTxItem, if_neg heot, if_neg hne] at hi
      cases hi
    subst hsoh
    rw [decodeTxItem_of_soh rfl (Nat.le_of_eq hlen.symm)] at hi
    obtain ⟨hfields, -⟩ := Prod.mk.inj (Except.ok.inj hi)
    exact ⟨rfl, hfields.symm⟩

/-- A data frame is placed in `FB`, and RETRY re-sends it. -/
theorem step_placeFrame {F : List Byte} {i : Instr} (hlen : F.length = FRAME_LEN)
    (hi : decodeTxItem F = .ok (i, [])) (s : State) : step (placeFrame F s) = exec i (placeFrame F s) := by
  obtain ⟨hsoh, rfl⟩ := decodeTxItem_frame hlen hi
  have hst : (placeFrame F s).st = .retry := rfl
  have herr : (placeFrame F s).err ≤ (placeFrame F s).cfg.maxRetry := withRetriesLeft_err_le _
  have hF : frameToEmit (placeFrame F s) =
      some (dataFrame (byteAt F 1) (byteAt F 2) (payloadOf F) (byteAt F 131)) := by
    rw [frameToEmit_of_retry hst herr, dataFrame_of_fields hlen hsoh, frameInBuffer, ← hlen]
    exact memRead_memWrite_self _ _ _
  rw [step_of_rowTaken (r := .retryResend) rfl ⟨hst, herr⟩, exec_data_of_retry hF hst herr]
  rfl

/-! ### The table's words -/

theorem decodeTableWord_eq_some {nbits w : Nat} {i : Instr} (h : decodeTableWord nbits w = some i) :
    ∃ f, tableFormat nbits w = some f ∧ decode tableCond f (tableBytes nbits w) = .ok (i, []) := by
  unfold decodeTableWord at h
  split at h
  · cases h
  next f hf =>
    refine ⟨f, hf, ?_⟩
    split at h
    next hdec => cases h; exact hdec
    · cases h
    · cases h

theorem tableBytes_of_byte {nbits : Nat} (h : nbits ≤ 8) (w : Nat) : tableBytes nbits w = [BitVec.ofNat 8 w] :=
  if_pos h

theorem tableBytes_of_dispatch {nbits : Nat} (h8 : ¬ nbits ≤ 8) (h16 : nbits ≤ 16) (w : Nat) :
    tableBytes nbits w = [BitVec.ofNat 8 w, BitVec.ofNat 8 (w / 256)] := by
  rw [tableBytes, if_neg h8, if_pos h16]

theorem tableBytes_length_of_frame {nbits : Nat} (h16 : ¬ nbits ≤ 16) (w : Nat) :
    (tableBytes nbits w).length = FRAME_LEN := by
  rw [tableBytes, if_neg (by omega), if_neg h16, List.length_map, List.length_range]

/-- Settles O8: by the width and, at one byte, by the value, each word is placed as its format is decoded. -/
theorem placedWordIsExecutedByTheNextStep : Obligations.PlacedWordIsExecutedByTheNextStep := by
  intro s nbits w i h
  obtain ⟨f, hf, hi⟩ := decodeTableWord_eq_some h
  rw [State.withFetchWord, placeTableWord, hf]
  unfold tableFormat at hf
  split at hf
  · cases hf
  split at hf
  next h8 =>
    rw [tableBytes_of_byte h8] at hi
    split at hf
    next hw => cases hf; exact step_placeCommand hw s hi
    split at hf
    next hw =>
      subst hw
      cases hf
      cases hi
      simpa only [if_pos h8] using step_placeEot s
    · cases hf
      cases hi
      exact step_placeResponse _ s
  next h8 =>
    split at hf
    next h16 =>
      cases hf
      rw [tableBytes_of_dispatch h8 h16] at hi
      exact step_placeDispatch s hi
    next h16 =>
      split at hf
      · cases hf
        simpa only [if_neg h8] using step_placeFrame (tableBytes_length_of_frame h16 w) hi s
      · cases hf

end Sys2Proof.Machine
end
